-- ==== Sys2Proof/Word.lean ====
section
/-! DEFINITION. The words of the quadrature core: the widths of 30_encoding.md rule R70, the 4-byte
message, and the three formats a request can be written in. -/

namespace Sys2Proof

/-- One byte: a stimulus word (R82), or one byte of a message (R76). -/
abbrev Byte := BitVec 8

/-- A PhaseState, format PHASE2 (R70): bit 1 is channel A, bit 0 is channel B (R54). -/
abbrev Phase := BitVec 2

/-- A transition code, format TRANSITION4 (R71): the previous PhaseState in bits 3:2, the current one
in bits 1:0. -/
abbrev TransitionCode := BitVec 4

/-- A direction carried as bits: 2-bit two's complement (R73). The pattern `10` is never produced. -/
abbrev DirBits := BitVec 2

/-- A Control-Change message, format MIDI4: its four bytes in transmission order (R53, R76). -/
structure Message where
  m0 : Byte
  m1 : Byte
  m2 : Byte
  m3 : Byte
  deriving DecidableEq, Repr

/-- One request as it is written in a program: a word of one of the three formats of R70 that
`spec/opcode_table.json` has rows for. The format is part of the request, because the words of the
formats overlap as bit patterns. -/
inductive RequestWord where
  /-- An 8-bit stimulus word (R82). -/
  | stim (w : Byte)
  /-- A 4-bit transition code (R71). -/
  | transition (c : TransitionCode)
  /-- A message packed as `m0 ‖ m1 ‖ m2 ‖ m3` (R10). -/
  | midi (w : BitVec 32)
  deriving DecidableEq, Repr

end Sys2Proof
end

