-- ==== Sys2Proof/Config.lean ====
section
/-! DEFINITION. What is fixed for a run (10_state.md rules R32 and R33) and the free values of the
model (00_scope.md rule R6). -/

namespace Sys2Proof

/-- `CFG_MODE`, the dispatch policy (R5, R32). -/
inductive Mode where
  | absolute
  | relative
  deriving DecidableEq, Repr

/-- `SCHED`, the scheduling model (R5, R32). -/
inductive Sched where
  | polled
  | async
  deriving DecidableEq, Repr

/-- The configuration record (R32). The numbers are held as integers, so that an illegal value can be
supplied and is refused (R33). -/
structure Config where
  /-- `CFG_MODE`. -/
  mode : Mode
  /-- `SCHED`. -/
  sched : Sched
  /-- `CFG_CHANNEL`, legal 0..15. -/
  channel : Nat
  /-- `CFG_CC`, legal 0..127. -/
  cc : Nat
  /-- `CFG_INIT_VALUE`, legal 0..127; a configuration that supplies none takes 64 (R32). -/
  initValue : Nat := 64
  /-- `ACC_W`, legal from 11 on; 16 for this hardware (R5). -/
  accW : Nat := 16
  deriving DecidableEq, Repr

/-- The legal-values column of R32. A configuration outside it is refused (R33). -/
def Config.legal (c : Config) : Bool :=
  decide (c.channel ≤ 15) && decide (c.cc ≤ 127) && decide (c.initValue ≤ 127) && decide (11 ≤ c.accW)

/-- DESIGN CHOICE (log 2; unsafe): the configuration of `State.reset`. The numbers are the defaults of
95_test_vectors.md; the spec binds neither policy nor scheduling model (91_not_in_source.md N20). -/
def Config.ofReset : Config :=
  { mode := .relative, sched := .async, channel := 0, cc := 0x10 }

/-- FREE VALUE (log 6): whether the Transport accepts the message offered at draw `n` (R200, R6). -/
opaque Config.transportAccepts : Nat → Bool

/-- FREE VALUE (log 6): how many queued messages the Transport delivers without a flush at draw `n`
(R200, last row). -/
opaque Config.earlyDeliveries : Nat → Nat

/-- FREE VALUE (log 4): which operation request is drawn at draw `n`, where an agent of its own accord may
step (R6, R187, R196). -/
opaque Config.agentDraw : Nat → Byte

end Sys2Proof
end

