-- ==== Sys2Proof/Syntax.lean ====
section
/-! DEFINITION. The instructions: one constructor per row of `spec/opcode_table.json`. -/

namespace Sys2Proof

/-- The operations of the block that `spec/opcode_table.json` gives a row. -/
inductive Instr where
  /-- `T0000`, DECODE of prev 0, cur 0 (R100). -/
  | t0000
  /-- `T0001`, DECODE of prev 0, cur 1 (R100). -/
  | t0001
  /-- `T0010`, DECODE of prev 0, cur 2 (R100). -/
  | t0010
  /-- `T0011`, DECODE of prev 0, cur 3 (R100). -/
  | t0011
  /-- `T0100`, DECODE of prev 1, cur 0 (R100). -/
  | t0100
  /-- `T0101`, DECODE of prev 1, cur 1 (R100). -/
  | t0101
  /-- `T0110`, DECODE of prev 1, cur 2 (R100). -/
  | t0110
  /-- `T0111`, DECODE of prev 1, cur 3 (R100). -/
  | t0111
  /-- `T1000`, DECODE of prev 2, cur 0 (R100). -/
  | t1000
  /-- `T1001`, DECODE of prev 2, cur 1 (R100). -/
  | t1001
  /-- `T1010`, DECODE of prev 2, cur 2 (R100). -/
  | t1010
  /-- `T1011`, DECODE of prev 2, cur 3 (R100). -/
  | t1011
  /-- `T1100`, DECODE of prev 3, cur 0 (R100). -/
  | t1100
  /-- `T1101`, DECODE of prev 3, cur 1 (R100). -/
  | t1101
  /-- `T1110`, DECODE of prev 3, cur 2 (R100). -/
  | t1110
  /-- `T1111`, DECODE of prev 3, cur 3 (R100). -/
  | t1111
  /-- `MSG_REL_PLUS`: EMIT sending `[0x0B, 0xB0 | channel, cc, 0x01]` (R145, R78). `cc` is the byte m2. -/
  | msgRelPlus (channel : BitVec 4) (cc : Byte)
  /-- `MSG_REL_MINUS`: EMIT sending `[0x0B, 0xB0 | channel, cc, 0x7F]` (R145, R78). -/
  | msgRelMinus (channel : BitVec 4) (cc : Byte)
  /-- `MSG_ABS`: EMIT sending `[0x0B, 0xB0 | channel, cc, value]` (R145, R78). `value` is the byte m3. -/
  | msgAbs (channel : BitVec 4) (cc : Byte) (value : Byte)
  /-- `PINS ab`: the Environment sets the channel levels (R106). -/
  | pins (a : BitVec 1) (b : BitVec 1)
  /-- `SAMPLE` (R102). -/
  | sample
  /-- `ACC +1` (R121). -/
  | accPlus
  /-- `ACC -1` (R121). -/
  | accMinus
  /-- `ACC 0` (R121). -/
  | accZero
  /-- `DRAIN`, the standalone test stimulus (R123). -/
  | drain
  /-- `DISPATCH` (R141). -/
  | dispatch
  /-- `EMIT` (R145). -/
  | emit
  /-- `FLUSH` (R146). -/
  | flush
  /-- `RESET` (R210). -/
  | reset
  deriving DecidableEq, Repr

end Sys2Proof
end

