-- ==== Sys2Proof/WellFormed.lean ====
section
/-! DEFINITION. Which instructions the encodings admit. Only the message rows carry operands that
reach outside their encoding: bytes m2 and m3 have bit 7 = 0 (30_encoding.md rules R76 and R86). -/

namespace Sys2Proof

/-- Bit 7 of a controller or value byte is 0 (R76). -/
def dataByteOk (b : Byte) : Bool := decide (b < 0x80#8)

/-- The operands of an instruction fit its encoding. -/
def Instr.wf : Instr → Bool
  | .msgRelPlus _ cc => dataByteOk cc
  | .msgRelMinus _ cc => dataByteOk cc
  | .msgAbs _ cc value => dataByteOk cc && dataByteOk value
  | .t0000 | .t0001 | .t0010 | .t0011 | .t0100 | .t0101 | .t0110 | .t0111 => true
  | .t1000 | .t1001 | .t1010 | .t1011 | .t1100 | .t1101 | .t1110 | .t1111 => true
  | .pins _ _ | .sample | .accPlus | .accMinus | .accZero => true
  | .drain | .dispatch | .emit | .flush | .reset => true

end Sys2Proof
end

