-- ==== Sys2Proof/Decode.lean ====
section
/-! DEFINITION. Decoding and encoding of the three formats of 30_encoding.md: stimulus words (R82 to
R85), transition codes (R71, R74) and messages (R76 to R78, R91). -/

namespace Sys2Proof

/-- Why a word has no instruction. -/
inductive DecodeError where
  /-- A stimulus word of R85. -/
  | reservedStimulus
  /-- A packed message that matches no message row at all (R86, R91). -/
  | reservedMessage
  /-- A packed message whose value byte the policy in force never produces (R78, R91). -/
  | otherPolicy
  deriving DecidableEq, Repr

/-! ## Stimulus words -/

/-- `S[7:4]`, the op of a stimulus word (R82). -/
def stimOp (w : Byte) : BitVec 4 := w.extractLsb' 4 4

/-- `S[3:0]`, the operand of a stimulus word (R82). -/
def stimArg (w : Byte) : BitVec 4 := w.extractLsb' 0 4

/-- A word whose operand must be `0000` (R84). -/
def plainStim (arg : BitVec 4) (i : Instr) : Except DecodeError Instr :=
  if arg = 0x0#4 then .ok i else .error .reservedStimulus

/-- The operand of PINS: `00ab` (R84). -/
def pinsStim (arg : BitVec 4) : Except DecodeError Instr :=
  if arg.extractLsb' 2 2 = 0#2 then .ok (.pins (arg.extractLsb' 1 1) (arg.extractLsb' 0 1))
  else .error .reservedStimulus

/-- The operand of ACC: a direction in 4-bit two's complement, one of +1, -1, 0 (R83, R84). -/
def accStim (arg : BitVec 4) : Except DecodeError Instr :=
  if arg = 0x1#4 then .ok .accPlus
  else if arg = 0xF#4 then .ok .accMinus
  else if arg = 0x0#4 then .ok .accZero
  else .error .reservedStimulus

/-- The stimulus op map (R83); every other word is refused (R85). -/
def decodeStim (w : Byte) : Except DecodeError Instr :=
  if stimOp w = 0x1#4 then pinsStim (stimArg w)
  else if stimOp w = 0x2#4 then plainStim (stimArg w) .sample
  else if stimOp w = 0x3#4 then accStim (stimArg w)
  else if stimOp w = 0x4#4 then plainStim (stimArg w) .drain
  else if stimOp w = 0x5#4 then plainStim (stimArg w) .dispatch
  else if stimOp w = 0x6#4 then plainStim (stimArg w) .emit
  else if stimOp w = 0x7#4 then plainStim (stimArg w) .flush
  else if stimOp w = 0xF#4 then plainStim (stimArg w) .reset
  else .error .reservedStimulus

/-! ## Transition codes -/

/-- The row of a transition code. None of the 16 codes is reserved (R75). -/
def decodeTransition (c : TransitionCode) : Instr :=
  match c.toNat with
  | 0 => .t0000 | 1 => .t0001 | 2 => .t0010 | 3 => .t0011
  | 4 => .t0100 | 5 => .t0101 | 6 => .t0110 | 7 => .t0111
  | 8 => .t1000 | 9 => .t1001 | 10 => .t1010 | 11 => .t1011
  | 12 => .t1100 | 13 => .t1101 | 14 => .t1110 | _ => .t1111

/-! ## Messages -/

/-- The packing `m0 ‖ m1 ‖ m2 ‖ m3` (R10). -/
def packMessage (m : Message) : BitVec 32 := m.m0 ++ m.m1 ++ m.m2 ++ m.m3

/-- The four bytes of a packed message, m0 in bits 31:24 (R10). -/
def unpackMessage (w : BitVec 32) : Message :=
  { m0 := w.extractLsb' 24 8, m1 := w.extractLsb' 16 8, m2 := w.extractLsb' 8 8, m3 := w.extractLsb' 0 8 }

/-- The bytes every message has in common: m0 = 0x0B, the high nibble of m1 = 0xB, bit 7 of m2 = 0 (R76, R77, R90). -/
def messageFrameOk (m : Message) : Bool :=
  decide (m.m0 = 0x0B#8) && decide (m.m1.extractLsb' 4 4 = 0xB#4) && dataByteOk m.m2

/-- The message row of a packed message. `CFG_MODE` decides which row applies, not the bits (R91). -/
def decodeMidi (mode : Mode) (w : BitVec 32) : Except DecodeError Instr :=
  let m := unpackMessage w
  if messageFrameOk m && dataByteOk m.m3 then
    match mode with
    | .absolute => .ok (.msgAbs (m.m1.extractLsb' 0 4) m.m2 m.m3)
    | .relative =>
      if m.m3 = 0x01#8 then .ok (.msgRelPlus (m.m1.extractLsb' 0 4) m.m2)
      else if m.m3 = 0x7F#8 then .ok (.msgRelMinus (m.m1.extractLsb' 0 4) m.m2)
      else .error .otherPolicy
  else .error .reservedMessage

/-! ## The three formats together -/

/-- The instruction of a request under the policy in force. -/
def decodeRequest (mode : Mode) : RequestWord → Except DecodeError Instr
  | .stim w => decodeStim w
  | .transition c => .ok (decodeTransition c)
  | .midi w => decodeMidi mode w

/-- The status byte of a channel, `1011 cccc` (R76, R77). -/
def statusByte (channel : BitVec 4) : Byte := 0xB#4 ++ channel

/-- The message of a row of the opcode table, `[0x0B, 0xB0 | channel, cc, value]` (R76). -/
def rowMessage (channel : BitVec 4) (cc value : Byte) : Message :=
  { m0 := 0x0B#8, m1 := statusByte channel, m2 := cc, m3 := value }

/-- A row's message as the table packs it (R10). -/
def messageWord (channel : BitVec 4) (cc value : Byte) : BitVec 32 := packMessage (rowMessage channel cc value)

/-- The word of an instruction, from the same tables (R74, R76 to R78, R83). -/
def encode : Instr → RequestWord
  | .t0000 => .transition 0b0000#4
  | .t0001 => .transition 0b0001#4
  | .t0010 => .transition 0b0010#4
  | .t0011 => .transition 0b0011#4
  | .t0100 => .transition 0b0100#4
  | .t0101 => .transition 0b0101#4
  | .t0110 => .transition 0b0110#4
  | .t0111 => .transition 0b0111#4
  | .t1000 => .transition 0b1000#4
  | .t1001 => .transition 0b1001#4
  | .t1010 => .transition 0b1010#4
  | .t1011 => .transition 0b1011#4
  | .t1100 => .transition 0b1100#4
  | .t1101 => .transition 0b1101#4
  | .t1110 => .transition 0b1110#4
  | .t1111 => .transition 0b1111#4
  | .msgRelPlus channel cc => .midi (messageWord channel cc 0x01#8)
  | .msgRelMinus channel cc => .midi (messageWord channel cc 0x7F#8)
  | .msgAbs channel cc value => .midi (messageWord channel cc value)
  | .pins a b => .stim (0b000100#6 ++ a ++ b)
  | .sample => .stim 0x20#8
  | .accPlus => .stim 0x31#8
  | .accMinus => .stim 0x3F#8
  | .accZero => .stim 0x30#8
  | .drain => .stim 0x40#8
  | .dispatch => .stim 0x50#8
  | .emit => .stim 0x60#8
  | .flush => .stim 0x70#8
  | .reset => .stim 0xF0#8

/-- The policies under which a row applies (R78, R91): a relative message row only under RELATIVE, the
absolute one only under ABSOLUTE, every other row under both. -/
def Instr.appliesUnder : Instr → Mode → Bool
  | .msgRelPlus _ _, m => m = .relative
  | .msgRelMinus _ _, m => m = .relative
  | .msgAbs _ _ _, m => m = .absolute
  | _, _ => true

/-! ## The opcode table's numbering -/

/-- The request that a word of `nbits` bits of the opcode table is. DESIGN CHOICE (log 9): among words of
one byte, those below 16 are transition codes, the others stimulus words; no row is a stimulus word
below 16, op `0x0` being reserved (R85). -/
def tableRequest (nbits w : Nat) : Option RequestWord :=
  match nbits with
  | 4 => if w < 16 then some (.transition (BitVec.ofNat 4 w)) else none
  | 8 =>
    if w < 16 then some (.transition (BitVec.ofNat 4 w))
    else if w < 256 then some (.stim (BitVec.ofNat 8 w))
    else none
  | 32 => if w < 2 ^ 32 then some (.midi (BitVec.ofNat 32 w)) else none
  | _ => none

/-- The policy under which a request of the table is read: RELATIVE where a row of it applies, otherwise
ABSOLUTE (log 9). -/
def tableMode (r : RequestWord) : Mode :=
  match decodeRequest .relative r with
  | .ok _ => .relative
  | .error _ => .absolute

/-- The instruction of a word of the opcode table. -/
def decodeTableWord (nbits w : Nat) : Option Instr :=
  match tableRequest nbits w with
  | none => none
  | some r => (decodeRequest (tableMode r) r).toOption

end Sys2Proof
end

