-- ==== Sys2Proof/Machine/State.lean ====
section
/-! DEFINITION. The state of the quadrature core (10_state.md), of the agents around it, and the reasons
a step can stop. Plain data. -/

namespace Sys2Proof.Machine

/-- `disp_state` (R28): its three values and the reserved fourth encoding (R81). -/
inductive DispState where
  | idle
  | emit
  | flush
  /-- The encoding `11`, which no rule writes (R155). -/
  | reserved
  deriving DecidableEq, Repr

/-- `poll_slot` (R42): which half of the polling iteration comes next. -/
inductive PollSlot where
  | sampler
  | dispatcher
  deriving DecidableEq, Repr

/-- The operations of the Sampler and the Dispatcher, as a fault records them (R184). -/
inductive OpName where
  | sample
  | acc
  | drain
  | dispatch
  | emit
  | flush
  deriving DecidableEq, Repr

/-- The registers and fields that can hold a reserved encoding (R184). -/
inductive RegName where
  | dispState
  | direction
  deriving DecidableEq, Repr

/-- The fault codes of R184. -/
inductive FaultCode where
  /-- Code 1. -/
  | accOverflow
  /-- Code 2. -/
  | fsmIllegal
  deriving DecidableEq, Repr

/-- A fault with what is recorded with it (R184, last column). -/
inductive FaultInfo where
  /-- The operation, `acc` and `dir` (R121). -/
  | accOverflow (op : OpName) (acc : Int) (dir : Int)
  /-- The operation, the offending register and its value (R155, R73). -/
  | fsmIllegal (op : OpName) (reg : RegName) (value : Nat)
  deriving DecidableEq, Repr

/-- The code of a recorded fault (R184). -/
def FaultInfo.code : FaultInfo → FaultCode
  | .accOverflow _ _ _ => .accOverflow
  | .fsmIllegal _ _ _ => .fsmIllegal

/-- The events of the output trace (R13). -/
inductive Event where
  /-- `Emit(m)`: one 4-byte message (R9, R35). -/
  | emit (m : Message)
  /-- `Flush()` (R9, R35). -/
  | flush
  /-- `DrainResult(d)`, of the standalone DRAIN only (R9, R123). -/
  | drainResult (d : Int)
  /-- The fault event (R185). -/
  | fault (info : FaultInfo)
  deriving DecidableEq, Repr

/-- Why an operation has no step. All are safe: the spec gives it none. Only `halted` ends a run; a request in a
program that answers another one waits at its word (`requestOutcome`; R187, log 8). -/
inductive Fault where
  /-- Every agent's operation raises it once `fault ≠ NONE`: from then on no agent has a step (R185). Safe. -/
  | halted (code : FaultCode)
  /-- A Dispatcher operation requested in a `disp_state` that does not enable it (R154, R187). Safe. -/
  | stuckDispState (op : OpName)
  /-- A Sampler operation, DISPATCH or DRAIN requested out of its slot under POLLED (R197, R187). Safe. -/
  | stuckPollSlot (op : OpName)
  /-- A message row requested where EMIT would send another message (R148, R187; log 7). Safe. -/
  | stuckMessage
  /-- EMIT in `disp_state = EMIT` with `rem = 0`, which R38 rules out (R145 "rem ≥ 1 here"; log 8). Safe. -/
  | stuckNoMessageLeft
  deriving DecidableEq, Repr

/-- Why the model gives a run no meaning (R186). -/
inductive Refusal where
  /-- Raised by `exec` for an instruction without a meaning yet; no arm of this model does. Safe. -/
  | notModelled (mnemonic : String)
  /-- Raised by every operation and every step under a configuration outside R32 (R33). Safe. -/
  | badConfig
  /-- Raised by the step when a pending stimulus word is one of R85. Safe. -/
  | reservedStimulus
  /-- Raised by the step when a pending MIDI4 word matches no row of the policy in force (R78, R86, R91; log 9). Safe. -/
  | reservedMessage
  deriving DecidableEq, Repr

/-- The state: the block's registers (R20), the configuration (R32), the pins (R34), the trace (R9), the
Transport (R37, R200), and the model's own `decodeOut`, `program` and `draws`. -/
structure State where
  /-- The configuration record (R32); no step changes it (R33). -/
  cfg : Config
  /-- `pin_a` (R34). -/
  pinA : BitVec 1
  /-- `pin_b` (R34). -/
  pinB : BitVec 1
  /-- `prev_phase` (R21). -/
  prevPhase : Phase
  /-- `acc` (R23); its range is the invariant `Safety.RegInv`. -/
  acc : Int
  /-- `ctrl_value` (R25). -/
  ctrlValue : BitVec 7
  /-- `last_emitted` (R27). -/
  lastEmitted : BitVec 7
  /-- `disp_state` (R28). -/
  dispState : DispState
  /-- `rem` (R29). -/
  rem : Nat
  /-- `rdir` (R30): 0 for +1 ticks, 1 for -1 ticks. -/
  rdir : BitVec 1
  /-- `poll_slot` (R42); absent (none) under ASYNC. -/
  pollSlot : Option PollSlot
  /-- `fault` (R31); none is NONE. -/
  fault : Option FaultCode
  /-- The output trace, oldest event first (R9). -/
  trace : List Event
  /-- The Transport's outbound queue, oldest message first (R37). -/
  queue : List Message
  /-- What the host has received, oldest message first (R200). -/
  delivered : List Message
  /-- MODEL (log 1): what the last directly requested DECODE returned (R11, R73). -/
  decodeOut : DirBits
  /-- MODEL (log 4): the requests still to be run, next one first (R82). -/
  program : List RequestWord
  /-- MODEL (log 6): how many free values have been drawn (R6). -/
  draws : Nat
  deriving DecidableEq, Repr

/-- The launch state: the state right after the first RESET, with the pins the Environment chose (R211,
R40). -/
def State.launch (cfg : Config) (a b : BitVec 1) : State where
  cfg := cfg
  pinA := a
  pinB := b
  prevPhase := a ++ b
  acc := 0
  ctrlValue := BitVec.ofNat 7 cfg.initValue
  lastEmitted := BitVec.ofNat 7 cfg.initValue
  dispState := .idle
  rem := 0
  rdir := 0#1
  pollSlot := match cfg.sched with
    | .polled => some .sampler
    | .async => none
  fault := none
  trace := []
  queue := []
  delivered := []
  decodeOut := 0#2
  program := []
  draws := 0

/-- The machine right after reset. DESIGN CHOICE (log 2, log 3; unsafe): the configuration and the pins,
which the spec leaves to the integrator and the Environment. -/
def State.reset : State := State.launch Config.ofReset 0#1 0#1

/-! One update per field, with its laws in `Sys2Proof/Laws/State.lean`. -/

def State.setCfg (s : State) (x : Config) : State := { s with cfg := x }
def State.setPinA (s : State) (x : BitVec 1) : State := { s with pinA := x }
def State.setPinB (s : State) (x : BitVec 1) : State := { s with pinB := x }
def State.setPrevPhase (s : State) (x : Phase) : State := { s with prevPhase := x }
def State.setAcc (s : State) (x : Int) : State := { s with acc := x }
def State.setCtrlValue (s : State) (x : BitVec 7) : State := { s with ctrlValue := x }
def State.setLastEmitted (s : State) (x : BitVec 7) : State := { s with lastEmitted := x }
def State.setDispState (s : State) (x : DispState) : State := { s with dispState := x }
def State.setRem (s : State) (x : Nat) : State := { s with rem := x }
def State.setRdir (s : State) (x : BitVec 1) : State := { s with rdir := x }
def State.setPollSlot (s : State) (x : Option PollSlot) : State := { s with pollSlot := x }
def State.setFault (s : State) (x : Option FaultCode) : State := { s with fault := x }
def State.setTrace (s : State) (x : List Event) : State := { s with trace := x }
def State.setQueue (s : State) (x : List Message) : State := { s with queue := x }
def State.setDelivered (s : State) (x : List Message) : State := { s with delivered := x }
def State.setDecodeOut (s : State) (x : DirBits) : State := { s with decodeOut := x }
def State.setProgram (s : State) (x : List RequestWord) : State := { s with program := x }
def State.setDraws (s : State) (x : Nat) : State := { s with draws := x }

end Sys2Proof.Machine
end

