-- ==== Sys2Proof/Machine/Operands.lean ====
section
/-! DEFINITION. The values operations compute: phases and directions (30_encoding.md §2), the
accumulator's range (10_state.md R23), the clamp (42_dispatch.md R143), the message (R148) and the
encodings of the configuration and of `disp_state` (R80, R81). -/

namespace Sys2Proof.Machine

/-! ## Phases and directions -/

/-- The PhaseState `{a, b}`: channel A in bit 1, channel B in bit 0 (R21, R54). -/
def phaseOf (a b : BitVec 1) : Phase := a ++ b

/-- `code = prev[1:0] ‖ cur[1:0]` (R72). -/
def transitionCode (prev cur : Phase) : TransitionCode := prev ++ cur

/-- The direction table `DIRTAB` (R74), its result encoded as R73 says. -/
def dirtab (code : TransitionCode) : DirBits :=
  match code.toNat with
  | 0b0001 | 0b0111 | 0b1110 | 0b1000 => 0b01#2
  | 0b0010 | 0b0100 | 0b1101 | 0b1011 => 0b11#2
  | _ => 0b00#2

/-- DECODE (R100): the direction of one transition. -/
def decodeDirection (prev cur : Phase) : DirBits := dirtab (transitionCode prev cur)

/-- The integer a direction stands for: 2-bit two's complement (R73). -/
def dirValue (d : DirBits) : Int := d.toInt

/-- The direction of one transition as an integer (R100). -/
def tickOf (prev cur : Phase) : Int := dirValue (decodeDirection prev cur)

/-- The classes of the table of R74. -/
inductive TransitionClass where
  | noChange
  | validStep
  | twoBitJump
  deriving DecidableEq, Repr

/-- The class column of R74: how many of the two channels changed. -/
def transitionClass (prev cur : Phase) : TransitionClass :=
  if prev = cur then .noChange else if cur = prev ^^^ 3#2 then .twoBitJump else .validStep

/-- The next PhaseState of the +1 cycle 0 → 1 → 3 → 2 → 0 (R74). -/
def grayNext (p : Phase) : Phase :=
  match p.toNat with
  | 0 => 1#2
  | 1 => 3#2
  | 3 => 2#2
  | _ => 0#2

/-- The next PhaseState of the -1 cycle 0 → 2 → 3 → 1 → 0 (R74). -/
def grayPrev (p : Phase) : Phase :=
  match p.toNat with
  | 0 => 2#2
  | 2 => 3#2
  | 3 => 1#2
  | _ => 0#2

/-- `swap(x) = x[0] ‖ x[1]`: channels A and B exchanged (R105). -/
def swapPhase (p : Phase) : Phase := p.extractLsb' 0 1 ++ p.extractLsb' 1 1

/-- The agents (R195 of 60_exceptions.md). -/
inductive Agent where
  | sampler
  | dispatcher
  | environment
  | transport
  | resetter
  deriving DecidableEq, Repr

/-! ## The accumulator's range -/

/-- The least value of `s(ACC_W)` (R23). -/
def accMin (cfg : Config) : Int := -(2 ^ (cfg.accW - 1))

/-- The greatest value of `s(ACC_W)` (R23). -/
def accMax (cfg : Config) : Int := 2 ^ (cfg.accW - 1) - 1

/-- The value fits `s(ACC_W)` (R23). -/
def fitsAcc (cfg : Config) (x : Int) : Bool := decide (accMin cfg ≤ x) && decide (x ≤ accMax cfg)

/-! ## The controller value -/

/-- `clamp(x, lo, hi) = min(max(x, lo), hi)` (R8). -/
def clampInt (x lo hi : Int) : Int := min (max x lo) hi

/-- The ControllerValue after a drained delta: the exact sum clamped to [0,127] (R141, R143). -/
def clampedValue (v : BitVec 7) (d : Int) : BitVec 7 :=
  BitVec.ofInt 7 (clampInt ((v.toNat : Int) + d) 0 127)

/-- One unit of the drained delta applied with the clamp (R143, R144). -/
def clampUnit (sgn : Int) (x : Int) : Int := clampInt (x + sgn) 0 127

/-- `n` units applied one after the other (R144). -/
def clampUnits (sgn : Int) : Nat → Int → Int
  | 0, x => x
  | n + 1, x => clampUnits sgn n (clampUnit sgn x)

/-! ## The message -/

/-- The value byte of a relative message (R78). -/
def tickByte (rdir : BitVec 1) : Byte := if rdir = 0#1 then 0x01#8 else 0x7F#8

/-- `MSG(val) = [0x0B, 0xB0 | CFG_CHANNEL, CFG_CC, val]` (R148, R77). -/
def buildMessage (cfg : Config) (val : Byte) : Message :=
  { m0 := 0x0B#8, m1 := 0xB0#8 ||| BitVec.ofNat 8 cfg.channel, m2 := BitVec.ofNat 8 cfg.cc, m3 := val }

/-- The value byte the policy gives (R145, R78). -/
def messageValue (s : State) : Byte :=
  match s.cfg.mode with
  | .relative => tickByte s.rdir
  | .absolute => s.ctrlValue.zeroExtend 8

/-- The encoded channel of a user-facing channel 1..16 (R79). -/
def channelOfUser (user : Nat) : Nat := user - 1

/-! ## Encodings of the configuration and of disp_state -/

/-- `CFG_MODE`: 0 = ABSOLUTE, 1 = RELATIVE (R80). -/
def modeBit : Mode → BitVec 1
  | .absolute => 0#1
  | .relative => 1#1

/-- The policy a mode bit stands for (R80). -/
def modeOfBit (b : BitVec 1) : Mode := if b = 0#1 then .absolute else .relative

/-- A configuration from its bit fields (R80, R32): with these widths only ACC_W can be illegal. -/
def configOfFields (mode : BitVec 1) (channel : BitVec 4) (cc init : BitVec 7) (accW : Nat) (sched : Sched) : Config :=
  { mode := modeOfBit mode, sched := sched, channel := channel.toNat, cc := cc.toNat,
    initValue := init.toNat, accW := accW }

/-- The encoding of `disp_state` (R81). -/
def dispStateBits : DispState → BitVec 2
  | .idle => 0b00#2
  | .emit => 0b01#2
  | .flush => 0b10#2
  | .reserved => 0b11#2

/-- The control state an encoding stands for (R81). -/
def dispStateOfBits (b : BitVec 2) : DispState :=
  match b.toNat with
  | 0 => .idle
  | 1 => .emit
  | 2 => .flush
  | _ => .reserved

/-- The number of a fault code (R184). -/
def faultNumber : FaultCode → Nat
  | .accOverflow => 1
  | .fsmIllegal => 2

end Sys2Proof.Machine
end

