-- ==== Sys2Proof/Machine/Flags.lean ====
section
/-! DEFINITION. The block has no status flags and no condition codes, and no operation writes one
(10_state.md R36). What an operation tests instead are the conditions on the state below. -/

namespace Sys2Proof.Machine

/-- The Sampler's slot: always under ASYNC (R196), `poll_slot = SAMPLER` under POLLED (R197). -/
def samplerSlot (s : State) : Bool :=
  match s.cfg.sched with
  | .async => true
  | .polled => decide (s.pollSlot = some .sampler)

/-- The Dispatcher's slot, for DISPATCH and the standalone DRAIN (R196, R197). EMIT and FLUSH need none. -/
def dispatcherSlot (s : State) : Bool :=
  match s.cfg.sched with
  | .async => true
  | .polled => decide (s.pollSlot = some .dispatcher)

/-- An agent of the block can step: the configuration is legal (R33) and `fault = NONE` (R185). -/
def ready (s : State) : Bool := s.cfg.legal && decide (s.fault = none)

/-- SAMPLE and ACC are enabled (R102, R121). -/
def samplerEnabled (s : State) : Bool := ready s && samplerSlot s

/-- DISPATCH and the standalone DRAIN are enabled (R141, R123). -/
def dispatchEnabled (s : State) : Bool := ready s && decide (s.dispState = .idle) && dispatcherSlot s

/-- EMIT is enabled, with a message left to send (R145). -/
def emitEnabled (s : State) : Bool := ready s && decide (s.dispState = .emit) && decide (1 ≤ s.rem)

/-- FLUSH is enabled (R146). -/
def flushEnabled (s : State) : Bool := ready s && decide (s.dispState = .flush)

/-- EMIT would send exactly this message under this policy (R148, R91). -/
def sendsMessage (s : State) (mode : Mode) (m : Message) : Bool :=
  decide (s.cfg.mode = mode) && decide (buildMessage s.cfg (messageValue s) = m)

end Sys2Proof.Machine
end

