-- ==== Sys2Proof/Machine/Ops.lean ====
section
/-! DEFINITION. The operations that the instructions share: raising a fault (60_exceptions.md R185), the
guards of the agents (R187, R195 to R197), the primitives of 00_scope.md R9, ACCUMULATE and DRAIN
(41_accumulator.md), the dispatch cycle (42_dispatch.md), RESET (70_reset_and_hazards.md R210) and the
Transport (R200). -/

namespace Sys2Proof.Machine

/-- What an operation answers. -/
abbrev Result := Host.Outcome State Fault Refusal

/-! ## Taking a fault -/

/-- `raise Fault(code)` (R9, R185): nothing of the operation is written, `fault` takes the code, and the
trace takes the fault event with what is recorded. There is no handler and no return (R188, R193). -/
def raise (info : FaultInfo) (s : State) : State :=
  (s.setFault (some info.code)).setTrace (s.trace ++ [.fault info])

/-- An operation that may raise: the fault is taken on the state the operation started from (R185, R188). -/
def raising (s : State) (r : Except FaultInfo State) : Result :=
  match r with
  | .ok t => .next t
  | .error info => .next (raise info s)

/-! ## Guards -/

/-- A run under an illegal configuration is refused (R33, R186). -/
def inRun (s : State) (k : Result) : Result :=
  if s.cfg.legal then k else .refused .badConfig

/-- A step of an agent: none once a fault is recorded (R185). -/
def agentStep (s : State) (k : Result) : Result :=
  inRun s (match s.fault with
    | none => k
    | some c => .fault (.halted c))

/-- A Sampler operation: enabled in the Sampler's slots (R102, R121, R196, R197). -/
def samplerStep (op : OpName) (s : State) (k : Result) : Result :=
  agentStep s (if samplerSlot s then k else .fault (.stuckPollSlot op))

/-- A Dispatcher operation: FSM_ILLEGAL in the reserved control state (R155), otherwise enabled in one
`disp_state` only (R154). -/
def dispatcherStep (op : OpName) (want : DispState) (s : State) (k : Result) : Result :=
  agentStep s
    (if s.dispState = .reserved then
      .next (raise (.fsmIllegal op .dispState (dispStateBits s.dispState).toNat) s)
    else if s.dispState = want then k
    else .fault (.stuckDispState op))

/-- An operation that begins a dispatch cycle or drains: enabled in IDLE, in the Dispatcher's slot (R141,
R123, R197). -/
def idleStep (op : OpName) (s : State) (k : Result) : Result :=
  dispatcherStep op .idle s (if dispatcherSlot s then k else .fault (.stuckPollSlot op))

/-! ## Primitives -/

/-- Write `poll_slot`, which exists only under POLLED (R42). -/
def passSlot (p : PollSlot) (s : State) : State :=
  match s.cfg.sched with
  | .polled => s.setPollSlot (some p)
  | .async => s

/-- The Transport takes the message offered, or drops it: a draw (R200, R6). -/
def offer (m : Message) (s : State) : State :=
  (s.setQueue (if Config.transportAccepts s.draws then s.queue ++ [m] else s.queue)).setDraws (s.draws + 1)

/-- `Emit(m)` (R9): the event, and the message handed to the Transport. -/
def emitMessage (m : Message) (s : State) : State :=
  offer m (s.setTrace (s.trace ++ [.emit m]))

/-- The Transport delivers the first `n` messages of its queue, in queue order (R200). DESIGN CHOICE (log 14;
unsafe): no queued message is ever dropped, where 93_implementation_defined.md I17 leaves that open at a RESET. -/
def deliver (n : Nat) (s : State) : State :=
  (s.setDelivered (s.delivered ++ s.queue.take n)).setQueue (s.queue.drop n)

/-- `Flush()` (R9, R35): the event, and the immediate delivery of every queued message in queue order
(R200, 92_eei_decisions.md D14; log 6). -/
def flushTransport (s : State) : State :=
  deliver s.queue.length (s.setTrace (s.trace ++ [.flush]))

/-- `DrainResult(d)` (R9). -/
def reportDrain (d : Int) (s : State) : State := s.setTrace (s.trace ++ [.drainResult d])

/-! ## DECODE, ACCUMULATE and DRAIN -/

/-- DECODE requested directly: a pure function, enabled always within a run (R100, R101). What it returns
stands in `decodeOut` (log 1). -/
def decodeStep (prev cur : Phase) (s : State) : Result :=
  inRun s (.next (s.setDecodeOut (decodeDirection prev cur)))

/-- ACCUMULATE (R121): the exact sum, checked against s(ACC_W). A direction pattern `10` raises
FSM_ILLEGAL (R73). -/
def accumulate (op : OpName) (dir : DirBits) (s : State) : Except FaultInfo State :=
  if dir = 0b10#2 then .error (.fsmIllegal op .direction dir.toNat)
  else if fitsAcc s.cfg (s.acc + dirValue dir) then .ok (s.setAcc (s.acc + dirValue dir))
  else .error (.accOverflow op s.acc (dirValue dir))

/-- The ACC stimulus (R121): ACCUMULATE in a Sampler slot of its own. -/
def accStep (dir : DirBits) (s : State) : Result :=
  samplerStep .acc s (raising s ((accumulate .acc dir s).map (passSlot .dispatcher)))

/-- SAMPLE's ACCUMULATE, called only when the direction is not 0 (R102, R103). -/
def sampleTick (d : DirBits) (s : State) : Except FaultInfo State :=
  if d = 0b00#2 then .ok s else accumulate .sample d s

/-- SAMPLE (R102): both pins at one instant, DECODE, ACCUMULATE, and `prev_phase <- cur`. -/
def sampleOnce (s : State) : Except FaultInfo State :=
  let cur := phaseOf s.pinA s.pinB
  (sampleTick (decodeDirection s.prevPhase cur) s).map fun t => passSlot .dispatcher (t.setPrevPhase cur)

/-- DRAIN (R122): the accumulator's value, and the state with it zeroed, in one step. -/
def drainAcc (s : State) : Int × State := (s.acc, s.setAcc 0)

/-- The standalone DRAIN (R123). -/
def drainReport (s : State) : State :=
  passSlot .sampler (reportDrain (drainAcc s).1 (drainAcc s).2)

/-! ## The dispatch cycle -/

/-- Begin emitting `n` messages (R141). -/
def schedule (n : Nat) (s : State) : State := (s.setRem n).setDispState .emit

/-- The relative policy on a drained delta that is not 0 (R141, R142). -/
def dispatchRelative (d : Int) (s : State) : State :=
  schedule d.natAbs (s.setRdir (if d < 0 then 1#1 else 0#1))

/-- The absolute policy on a drained delta that is not 0 (R141, R143): a cycle with no message ends here. -/
def dispatchAbsolute (d : Int) (s : State) : State :=
  let v := clampedValue s.ctrlValue d
  if v = s.lastEmitted then passSlot .sampler (s.setCtrlValue v)
  else schedule 1 (s.setCtrlValue v)

/-- DISPATCH (R141): drain, then schedule this cycle's messages. -/
def dispatchCycle (s : State) : State :=
  let d := (drainAcc s).1
  let t := (drainAcc s).2
  if d = 0 then passSlot .sampler t
  else match s.cfg.mode with
    | .relative => dispatchRelative d t
    | .absolute => dispatchAbsolute d t

/-- EMIT's bookkeeping of the value sent: ABSOLUTE only, whether or not the Transport accepts (R145, R149). -/
def recordEmitted (s : State) : State :=
  match s.cfg.mode with
  | .relative => s
  | .absolute => s.setLastEmitted s.ctrlValue

/-- One message fewer; the last one leads to FLUSH (R145). -/
def countDown (s : State) : State :=
  let t := s.setRem (s.rem - 1)
  if s.rem - 1 = 0 then t.setDispState .flush else t

/-- EMIT (R145): exactly one 4-byte message. -/
def emitOne (s : State) : State :=
  countDown (recordEmitted (emitMessage (buildMessage s.cfg (messageValue s)) s))

/-- A step that sends a message, enabled where EMIT is and `may` holds (R145, R154). R38 rules out a
`rem` of 0 here (log 8). -/
def emitStep (may : Bool) (s : State) : Result :=
  dispatcherStep .emit .emit s
    (if s.rem = 0 then .fault .stuckNoMessageLeft
    else if may then .next (emitOne s)
    else .fault .stuckMessage)

/-- A message row: EMIT where it sends exactly this message (R145, R148, R91; log 7). -/
def messageStep (mode : Mode) (m : Message) (s : State) : Result := emitStep (sendsMessage s mode m) s

/-- FLUSH (R146): one flush event, back to IDLE; under POLLED the cycle ends here (R197). -/
def flushCycle (s : State) : State := passSlot .sampler ((flushTransport s).setDispState .idle)

/-! ## Pins, RESET and the Transport's own turn -/

/-- PINS (R106): the Environment's write of both pins. -/
def setPins (a b : BitVec 1) (s : State) : State := (s.setPinA a).setPinB b

/-- The seed of the ControllerValue, `CFG_INIT_VALUE` (R210). -/
def seedValue (s : State) : BitVec 7 := BitVec.ofNat 7 s.cfg.initValue

/-- RESET (R210): every register of the block but `fault`; no event (R212), and neither the configuration
nor the pins nor the Transport (R41). -/
def resetBlock (s : State) : State :=
  passSlot .sampler
    (((((((s.setPrevPhase (phaseOf s.pinA s.pinB)).setAcc 0).setCtrlValue (seedValue s)).setLastEmitted
      (seedValue s)).setDispState .idle).setRem 0).setRdir 0#1)

/-- The Transport's turn between two operations: it may deliver queued messages without a flush (R200,
R197). It has no step once a fault is recorded (R185). DESIGN CHOICE (log 14; unsafe): it never drops a queued
message, also not one left from before a RESET (R213, I17). -/
def transportTurn (s : State) : State :=
  match s.fault with
  | some _ => s
  | none => (deliver (Config.earlyDeliveries s.draws) s).setDraws (s.draws + 1)

end Sys2Proof.Machine
end

