-- ==== Sys2Proof/Machine/Accumulator.lean ====
section
/-! DEFINITION. The DeltaAccumulator's stimuli (41_accumulator.md): ACC +1, ACC -1, ACC 0 (R121) and
the standalone DRAIN (R123). -/

namespace Sys2Proof.Machine

/-- `ACC +1` (R121): direction `01`. -/
def execAccPlus (s : State) : Result := accStep 0b01#2 s

/-- `ACC -1` (R121): direction `11`. -/
def execAccMinus (s : State) : Result := accStep 0b11#2 s

/-- `ACC 0` (R121): direction `00`, which leaves `acc` unchanged. -/
def execAccZero (s : State) : Result := accStep 0b00#2 s

/-- The standalone DRAIN (R123). -/
def execDrain (s : State) : Result := idleStep .drain s (.next (drainReport s))

end Sys2Proof.Machine
end

