-- ==== Sys2Proof/Machine/Decoder.lean ====
section
/-! DEFINITION. The QuadratureDecoder (40_decoder.md): DECODE, one definition per transition code of
R74; SAMPLE (R102); and the Environment's PINS (R106). -/

namespace Sys2Proof.Machine

/-- DECODE of code 0000: prev 0, cur 0 (R74, R100). -/
def execT0000 (s : State) : Result := decodeStep 0#2 0#2 s

/-- DECODE of code 0001: prev 0, cur 1 (R74, R100). -/
def execT0001 (s : State) : Result := decodeStep 0#2 1#2 s

/-- DECODE of code 0010: prev 0, cur 2 (R74, R100). -/
def execT0010 (s : State) : Result := decodeStep 0#2 2#2 s

/-- DECODE of code 0011: prev 0, cur 3 (R74, R100). -/
def execT0011 (s : State) : Result := decodeStep 0#2 3#2 s

/-- DECODE of code 0100: prev 1, cur 0 (R74, R100). -/
def execT0100 (s : State) : Result := decodeStep 1#2 0#2 s

/-- DECODE of code 0101: prev 1, cur 1 (R74, R100). -/
def execT0101 (s : State) : Result := decodeStep 1#2 1#2 s

/-- DECODE of code 0110: prev 1, cur 2 (R74, R100). -/
def execT0110 (s : State) : Result := decodeStep 1#2 2#2 s

/-- DECODE of code 0111: prev 1, cur 3 (R74, R100). -/
def execT0111 (s : State) : Result := decodeStep 1#2 3#2 s

/-- DECODE of code 1000: prev 2, cur 0 (R74, R100). -/
def execT1000 (s : State) : Result := decodeStep 2#2 0#2 s

/-- DECODE of code 1001: prev 2, cur 1 (R74, R100). -/
def execT1001 (s : State) : Result := decodeStep 2#2 1#2 s

/-- DECODE of code 1010: prev 2, cur 2 (R74, R100). -/
def execT1010 (s : State) : Result := decodeStep 2#2 2#2 s

/-- DECODE of code 1011: prev 2, cur 3 (R74, R100). -/
def execT1011 (s : State) : Result := decodeStep 2#2 3#2 s

/-- DECODE of code 1100: prev 3, cur 0 (R74, R100). -/
def execT1100 (s : State) : Result := decodeStep 3#2 0#2 s

/-- DECODE of code 1101: prev 3, cur 1 (R74, R100). -/
def execT1101 (s : State) : Result := decodeStep 3#2 1#2 s

/-- DECODE of code 1110: prev 3, cur 2 (R74, R100). -/
def execT1110 (s : State) : Result := decodeStep 3#2 2#2 s

/-- DECODE of code 1111: prev 3, cur 3 (R74, R100). -/
def execT1111 (s : State) : Result := decodeStep 3#2 3#2 s

/-- PINS (R106): enabled whenever no fault is recorded; any levels, bounce included (R199). -/
def execPins (a b : BitVec 1) (s : State) : Result := agentStep s (.next (setPins a b s))

/-- SAMPLE (R102). A faulting SAMPLE writes nothing, not even `prev_phase`. -/
def execSample (s : State) : Result := samplerStep .sample s (raising s (sampleOnce s))

end Sys2Proof.Machine
end

