-- ==== Sys2Proof/Machine/Dispatcher.lean ====
section
/-! DEFINITION. The EventDispatcher (42_dispatch.md): DISPATCH (R141), EMIT (R145), FLUSH (R146), and the
Resetter's RESET (70_reset_and_hazards.md R210). -/

namespace Sys2Proof.Machine

/-- DISPATCH (R141). -/
def execDispatch (s : State) : Result := idleStep .dispatch s (.next (dispatchCycle s))

/-- EMIT (R145): the message is the one the state calls for. -/
def execEmit (s : State) : Result := emitStep true s

/-- FLUSH (R146). -/
def execFlush (s : State) : Result := dispatcherStep .flush .flush s (.next (flushCycle s))

/-- RESET (R210): enabled in any `disp_state` whenever no fault is recorded. -/
def execReset (s : State) : Result := agentStep s (.next (resetBlock s))

end Sys2Proof.Machine
end

