-- ==== Sys2Proof/Machine/Emitter.lean ====
section
/-! DEFINITION. The MidiEmitter's message rows (30_encoding.md R76 to R78 and R91; 42_dispatch.md R145 and
R148): the EMIT step, named by the message it sends (log 7). -/

namespace Sys2Proof.Machine

/-- `MSG_REL_PLUS`: the relative policy's +1 tick, m3 = 0x01 (R78). -/
def execMsgRelPlus (channel : BitVec 4) (cc : Byte) (s : State) : Result :=
  messageStep .relative (rowMessage channel cc 0x01#8) s

/-- `MSG_REL_MINUS`: the relative policy's -1 tick, m3 = 0x7F (R78). -/
def execMsgRelMinus (channel : BitVec 4) (cc : Byte) (s : State) : Result :=
  messageStep .relative (rowMessage channel cc 0x7F#8) s

/-- `MSG_ABS`: the absolute policy's value, m3 = the ControllerValue (R78). -/
def execMsgAbs (channel : BitVec 4) (cc value : Byte) (s : State) : Result :=
  messageStep .absolute (rowMessage channel cc value) s

end Sys2Proof.Machine
end

