-- ==== Sys2Proof/Machine/Dispatch.lean ====
section
/-! DEFINITION. The dispatch: one arm per instruction, each a direct call of its meaning. -/

namespace Sys2Proof.Machine

def exec (i : Instr) (s : State) : Host.Outcome State Fault Refusal :=
  match i with
  | .t0000 => Sys2Proof.Machine.execT0000 s
  | .t0001 => Sys2Proof.Machine.execT0001 s
  | .t0010 => Sys2Proof.Machine.execT0010 s
  | .t0011 => Sys2Proof.Machine.execT0011 s
  | .t0100 => Sys2Proof.Machine.execT0100 s
  | .t0101 => Sys2Proof.Machine.execT0101 s
  | .t0110 => Sys2Proof.Machine.execT0110 s
  | .t0111 => Sys2Proof.Machine.execT0111 s
  | .t1000 => Sys2Proof.Machine.execT1000 s
  | .t1001 => Sys2Proof.Machine.execT1001 s
  | .t1010 => Sys2Proof.Machine.execT1010 s
  | .t1011 => Sys2Proof.Machine.execT1011 s
  | .t1100 => Sys2Proof.Machine.execT1100 s
  | .t1101 => Sys2Proof.Machine.execT1101 s
  | .t1110 => Sys2Proof.Machine.execT1110 s
  | .t1111 => Sys2Proof.Machine.execT1111 s
  | .msgRelPlus channel cc => Sys2Proof.Machine.execMsgRelPlus channel cc s
  | .msgRelMinus channel cc => Sys2Proof.Machine.execMsgRelMinus channel cc s
  | .msgAbs channel cc value => Sys2Proof.Machine.execMsgAbs channel cc value s
  | .pins a b => Sys2Proof.Machine.execPins a b s
  | .sample => Sys2Proof.Machine.execSample s
  | .accPlus => Sys2Proof.Machine.execAccPlus s
  | .accMinus => Sys2Proof.Machine.execAccMinus s
  | .accZero => Sys2Proof.Machine.execAccZero s
  | .drain => Sys2Proof.Machine.execDrain s
  | .dispatch => Sys2Proof.Machine.execDispatch s
  | .emit => Sys2Proof.Machine.execEmit s
  | .flush => Sys2Proof.Machine.execFlush s
  | .reset => Sys2Proof.Machine.execReset s

end Sys2Proof.Machine
end

