-- ==== Sys2Proof/Machine/Schedule.lean ====
section
/-! DEFINITION. Which operation a step performs: the next request of the program (30_encoding.md R82), or,
with none pending, a drawn one (60_exceptions.md R196); and the refusals decided before any step (R186,
R192(e)). -/

namespace Sys2Proof.Machine

/-- The refusal a word without an instruction stands for (R85, R86, R186). -/
def refusalOf : DecodeError → Refusal
  | .reservedStimulus => .reservedStimulus
  | .reservedMessage => .reservedMessage
  | .otherPolicy => .reservedMessage

/-- The first pending word that has no instruction refuses the whole run (R186, R192(e)). -/
def programRefusal (mode : Mode) : List RequestWord → Option Refusal
  | [] => none
  | r :: rest =>
    match decodeRequest mode r with
    | .error e => some (refusalOf e)
    | .ok _ => programRefusal mode rest

/-- The agent an operation belongs to (R195). The message rows are EMIT steps (log 7); DECODE is a function and
belongs to no agent (R100). -/
def agentOf : Instr → Option Agent
  | .t0000 | .t0001 | .t0010 | .t0011 | .t0100 | .t0101 | .t0110 | .t0111 => none
  | .t1000 | .t1001 | .t1010 | .t1011 | .t1100 | .t1101 | .t1110 | .t1111 => none
  | .sample | .accPlus | .accMinus | .accZero => some .sampler
  | .drain | .dispatch | .emit | .flush => some .dispatcher
  | .msgRelPlus _ _ | .msgRelMinus _ _ | .msgAbs _ _ _ => some .dispatcher
  | .pins _ _ => some .environment
  | .reset => some .resetter

/-- The state after an operation that may not be enabled: where it has no step, the state stays (R187). -/
def stateAfter (r : Result) (s : State) : State :=
  match r with
  | .next t => t
  | .fault _ => s
  | .refused _ => s

/-- The operation of the word drawn, performed where it is enabled. `waiting` is the agent that has no step
because its own request is stuck (R187; log 8). -/
def performDrawn (waiting : Option Agent) (w : Byte) (s : State) : State :=
  match decodeStim w with
  | .ok i => if agentOf i = waiting then s else stateAfter (exec i s) s
  | .error _ => s

/-- Some agent's operation is drawn and performed where it is enabled (R6, R196; log 4). -/
def drawnOperation (waiting : Option Agent) (s : State) : State :=
  performDrawn waiting (Config.agentDraw s.draws) (s.setDraws (s.draws + 1))

/-- A request whose operation is not enabled has no step and waits: the program stays at its word, while the
other agents still may step (R187). -/
def waitingStep (i : Instr) (s : State) : Result := .next (transportTurn (drawnOperation (agentOf i) s))

/-- The reasons that say that an operation is not enabled (R187); the other one ends the run (R185). -/
def notEnabled : Fault → Bool
  | .halted _ => false
  | .stuckDispState _ | .stuckPollSlot _ | .stuckMessage | .stuckNoMessageLeft => true

/-- What a step makes of the answer of the request `i` in the state `s`: after a next state the Transport has
its turn (R200), and a request that is not enabled waits (R187). -/
def requestOutcome (i : Instr) (s : State) (r : Result) : Result :=
  match r with
  | .next t => .next (transportTurn t)
  | .fault f => if notEnabled f then waitingStep i s else .fault f
  | .refused x => .refused x

/-- A step of a program (R82): the first request is performed and taken off the program. -/
def requestStep (r : RequestWord) (rest : List RequestWord) (s : State) : Result :=
  match decodeRequest s.cfg.mode r with
  | .ok i => requestOutcome i s (exec i (s.setProgram rest))
  | .error e => .refused (refusalOf e)

/-- A step of a free run (R196, R187): no agent waits. Once a fault is recorded no agent has a step (R185). -/
def freeStep (s : State) : Result :=
  match s.fault with
  | some c => .fault (.halted c)
  | none => .next (transportTurn (drawnOperation none s))

/-- One step of a run (R58): refused before anything else under an illegal configuration (R33) or with a
reserved word pending (R192(e)). -/
def runStep (s : State) : Result :=
  inRun s (match programRefusal s.cfg.mode s.program with
    | some x => .refused x
    | none =>
      match s.program with
      | [] => freeStep s
      | r :: rest => requestStep r rest s)

/-- The policy under which a table word's row applies; a word with a row under both leaves it (R91; log 9). -/
def modeForRequest (mode : Mode) (r : RequestWord) : Mode :=
  match r with
  | .midi _ => tableMode r
  | .stim _ => mode
  | .transition _ => mode

/-- Load a program of one request, written as a word of the opcode table (log 4). A word of no format
loads the reserved stimulus word 0x00 (R85). -/
def loadTableWord (s : State) (nbits w : Nat) : State :=
  match tableRequest nbits w with
  | none => s.setProgram [.stim 0x00#8]
  | some r => (s.setProgram [r]).setCfg { s.cfg with mode := modeForRequest s.cfg.mode r }

end Sys2Proof.Machine
end

