-- ==== Sys2Proof/Machine/Step.lean ====
section
/-! DEFINITION. One step of the machine, and the load of one request word. -/

namespace Sys2Proof.Machine

/-- One step of a run (R58, R82, R196). -/
def step (s : State) : Host.Outcome State Fault Refusal := runStep s

/-- The state with one word of the opcode table loaded as its program (log 4). -/
def State.withFetchWord (s : State) (nbits w : Nat) : State := loadTableWord s nbits w

end Sys2Proof.Machine
end

