-- ==== Sys2Proof/Machine/Assembler.lean ====
section
/-! DEFINITION. Stimulus programs as text (30_encoding.md R88) and their pseudo-instructions (R89). A line is
a list of characters; assembling gives the stimulus words of R83. -/

namespace Sys2Proof.Machine

/-- The stimulus word of an instruction that has one (R83). -/
def stimWord (i : Instr) : List Byte :=
  match encode i with
  | .stim w => [w]
  | .transition _ => []
  | .midi _ => []

/-- `TURN ab`: `PINS ab` then `SAMPLE` (R89). -/
def turnExpansion (a b : BitVec 1) : List Instr := [.pins a b, .sample]

/-- `CYCLE n`: `DISPATCH`, `n` times `EMIT`, then `FLUSH` if `n ≥ 1` (R89). -/
def cycleExpansion (n : Nat) : List Instr :=
  .dispatch :: (List.replicate n .emit ++ if 1 ≤ n then [.flush] else [])

/-- The words of a list of instructions (R83). -/
def assembleInstrs : List Instr → List Byte
  | [] => []
  | i :: is => stimWord i ++ assembleInstrs is

/-- A program of stimulus words as the machine's pending requests (R82). -/
def stimProgram (ws : List Byte) : List RequestWord := ws.map .stim

/-- A comment runs from `;` to the end of the line (R88). -/
def stripComment : List Char → List Char
  | [] => []
  | c :: cs => if c = ';' then [] else c :: stripComment cs

/-- The words of a line, split at spaces; `acc` is the word being read. -/
def splitWords (acc : List Char) : List Char → List (List Char)
  | [] => if acc = [] then [] else [acc]
  | c :: cs =>
    if c = ' ' ∨ c = '\t' then (if acc = [] then splitWords [] cs else acc :: splitWords [] cs)
    else splitWords (acc ++ [c]) cs

/-- The text after the first `:`, where there is one, with the text before it (R88, labels). -/
def splitLabel : List Char → Option (List Char × List Char)
  | [] => none
  | c :: cs =>
    if c = ':' then some ([], cs)
    else match splitLabel cs with
      | some (name, rest) => some (c :: name, rest)
      | none => none

/-- A label is text only: it is dropped. Its name is one word (R88). -/
def stripLabel (line : List Char) : Option (List Char) :=
  match splitLabel line with
  | none => some line
  | some (name, rest) => if (splitWords [] name).length = 1 then some rest else none

/-- A binary digit. -/
def bitOf (c : Char) : Option (BitVec 1) :=
  if c = '0' then some 0#1 else if c = '1' then some 1#1 else none

/-- A decimal number read from its digits; `n` is the number read so far. -/
def decimalOf (n : Nat) : List Char → Option Nat
  | [] => some n
  | c :: cs => if '0' ≤ c ∧ c ≤ '9' then decimalOf (10 * n + (c.toNat - 48)) cs else none

/-- The two-digit operand `ab`, A first (R88). -/
def pinOperand (ab : List Char) (f : BitVec 1 → BitVec 1 → List Instr) : Option (List Instr) :=
  match ab with
  | [x, y] =>
    match bitOf x, bitOf y with
    | some a, some b => some (f a b)
    | _, _ => none
  | _ => none

/-- A mnemonic without operand (R88). -/
def plainLine (op : List Char) : Option (List Instr) :=
  match op with
  | ['S', 'A', 'M', 'P', 'L', 'E'] => some [.sample]
  | ['D', 'R', 'A', 'I', 'N'] => some [.drain]
  | ['D', 'I', 'S', 'P', 'A', 'T', 'C', 'H'] => some [.dispatch]
  | ['E', 'M', 'I', 'T'] => some [.emit]
  | ['F', 'L', 'U', 'S', 'H'] => some [.flush]
  | ['R', 'E', 'S', 'E', 'T'] => some [.reset]
  | _ => none

/-- A mnemonic with one operand: `PINS ab`, `ACC d`, `TURN ab`, `CYCLE n` (R88, R89). -/
def operandLine (op arg : List Char) : Option (List Instr) :=
  match op with
  | ['P', 'I', 'N', 'S'] => pinOperand arg fun a b => [.pins a b]
  | ['T', 'U', 'R', 'N'] => pinOperand arg turnExpansion
  | ['C', 'Y', 'C', 'L', 'E'] => (decimalOf 0 arg).map cycleExpansion
  | ['A', 'C', 'C'] =>
    match arg with
    | ['+', '1'] => some [.accPlus]
    | ['-', '1'] => some [.accMinus]
    | ['0'] => some [.accZero]
    | _ => none
  | _ => none

/-- The instructions of one line (R88, R89): a line may be empty, or a comment or label alone. -/
def parseLine (line : List Char) : Option (List Instr) :=
  match stripLabel (stripComment line) with
  | none => none
  | some text =>
    match splitWords [] text with
    | [] => some []
    | [op] => plainLine op
    | [op, arg] => operandLine op arg
    | _ => none

/-- The words of a program, one operation a line (R88). -/
def assemble : List (List Char) → Option (List Byte)
  | [] => some []
  | line :: rest =>
    match parseLine line, assemble rest with
    | some is, some ws => some (assembleInstrs is ++ ws)
    | _, _ => none

end Sys2Proof.Machine
end

