-- ==== Sys2Proof/Safety.lean ====
section
/-! DEFINITION. What statements are stated in: the launch premises and quiescence
(70_reset_and_hazards.md R223, R224), the invariants of the registers, of polling, of the trace and of
the Transport, and runs of operations. -/

namespace Sys2Proof.Safety

open Sys2Proof.Machine

/-! ## Premises and observation -/

/-- `clean_launch` (R224): the post-RESET state, with a program loaded. -/
def cleanLaunch (s : State) : Prop :=
  ∃ cfg a b p, s = (State.launch cfg a b).setProgram p

/-- `no_refusal` (R224): every pending word has an instruction. -/
def noRefusal (s : State) : Prop := programRefusal s.cfg.mode s.program = none

/-- A quiescent state (R223). -/
def quiescent (s : State) : Prop :=
  s.dispState = .idle ∧ s.acc = 0 ∧ s.fault = none ∧ (s.cfg.sched = .polled → s.pollSlot = some .sampler)

/-- The messages of a trace, in order (R13). -/
def emittedOf : List Event → List Message
  | [] => []
  | .emit m :: es => m :: emittedOf es
  | .flush :: es => emittedOf es
  | .drainResult _ :: es => emittedOf es
  | .fault _ :: es => emittedOf es

/-! ## Invariants -/

/-- The registers: their ranges (R23, R29), the control state (R38, R81), the presence of `poll_slot` (R42),
and what the absolute policy keeps (R38, R145, R156). -/
structure RegInv (s : State) : Prop where
  accRange : fitsAcc s.cfg s.acc = true
  remRange : s.rem ≤ 2 ^ (s.cfg.accW - 1)
  notReserved : s.dispState ≠ .reserved
  idleRem : s.dispState = .idle → s.rem = 0
  emitRem : s.dispState = .emit → 1 ≤ s.rem
  flushRem : s.dispState = .flush → s.rem = 0
  slotPresent : s.pollSlot.isSome = true ↔ s.cfg.sched = .polled
  absIdle : s.cfg.mode = .absolute → s.dispState = .idle → s.lastEmitted = s.ctrlValue
  absFlush : s.cfg.mode = .absolute → s.dispState = .flush → s.lastEmitted = s.ctrlValue
  absEmit : s.cfg.mode = .absolute → s.dispState = .emit → s.rem = 1 ∧ s.lastEmitted ≠ s.ctrlValue

/-- The polling order (R197) and what it gives (R152): under POLLED no drained delta leaves {-1, 0, +1} and no
cycle has more than one message. -/
structure PollInv (s : State) : Prop where
  atSampler : s.pollSlot = some .sampler → s.dispState = .idle ∧ s.acc = 0
  atDispatcher : s.pollSlot = some .dispatcher → s.acc.natAbs ≤ 1
  inCycle : s.dispState ≠ .idle → s.pollSlot = some .dispatcher ∧ s.acc = 0 ∧ s.rem ≤ 1

/-- Every flush event of a trace comes directly after an emit event; `p` says that the event before the
list is one. -/
def flushesFollowEmits (p : Bool) : List Event → Bool
  | [] => true
  | .emit _ :: es => flushesFollowEmits true es
  | .flush :: es => p && flushesFollowEmits false es
  | .drainResult _ :: es => flushesFollowEmits false es
  | .fault _ :: es => flushesFollowEmits false es

/-- The last event of a trace is an emit. -/
def endsWithEmit (es : List Event) : Prop := ∃ pre m, es = pre ++ [.emit m]

/-- Flush placement (R151, R61): a flush is the event right after the last emit of its cycle. -/
structure FlushInv (s : State) : Prop where
  traceOk : flushesFollowEmits false s.trace = true
  pending : s.fault = none → s.dispState = .flush → endsWithEmit s.trace

/-- A value byte the policy can produce (R78). -/
def policyValue (mode : Mode) (v : Byte) : Prop :=
  match mode with
  | .relative => v = 0x01#8 ∨ v = 0x7F#8
  | .absolute => v.toNat ≤ 127

/-- Message format (R76 to R78, R86, R148): every message of the trace is built from the configuration. -/
def MessageInv (s : State) : Prop :=
  ∀ m ∈ emittedOf s.trace, ∃ v, policyValue s.cfg.mode v ∧ m = buildMessage s.cfg v

/-- The Transport (R200): what the host received, followed by what is queued, is a subsequence of the
emitted messages, in trace order. -/
def TransportInv (s : State) : Prop := (s.delivered ++ s.queue).Sublist (emittedOf s.trace)

/-! ## Views -/

/-- The state without the Transport and the draws: all that the block and its trace are. -/
def blockView (s : State) : State := ((s.setQueue []).setDelivered []).setDraws 0

/-- The answer of an operation seen through a view. -/
def viewResult (view : State → State) (r : Result) : Result :=
  match r with
  | .next t => .next (view t)
  | .fault f => .fault f
  | .refused x => .refused x

/-! ## Runs of operations -/

/-- How many messages a DISPATCH would schedule (R140 to R143). -/
def scheduledMessages (s : State) : Nat :=
  if s.acc = 0 then 0
  else match s.cfg.mode with
    | .relative => s.acc.natAbs
    | .absolute => if clampedValue s.ctrlValue s.acc = s.lastEmitted then 0 else 1

/-- Operations performed one after the other (R58), stopping at the first fault or refusal. -/
def runAll : List Instr → State → Result
  | [], s => .next s
  | i :: is, s =>
    match exec i s with
    | .next t => runAll is t
    | .fault f => .fault f
    | .refused x => .refused x

/-- The ACC stimulus of a direction: +1, -1, or 0 for every other value (R83). -/
def accInstr (d : Int) : Instr := if d = 1 then .accPlus else if d = -1 then .accMinus else .accZero

/-- The sum of a list of directions. -/
def sumOf : List Int → Int
  | [] => 0
  | d :: ds => d + sumOf ds

/-- The running sums from `x` on stay within s(ACC_W): `no_overflow` (R224) for a list of directions. -/
def staysInRange (cfg : Config) (x : Int) : List Int → Prop
  | [] => True
  | d :: ds => fitsAcc cfg (x + d) = true ∧ staysInRange cfg (x + d) ds

/-- The directions of the consecutive pairs of a list of sampled phases, from `p` on (R105). -/
def ticksOf (p : Phase) : List Phase → List Int
  | [] => []
  | c :: cs => tickOf p c :: ticksOf c cs

/-- The operations that sample each of a list of phases: PINS, then SAMPLE (R89 TURN). -/
def sampleAll : List Phase → List Instr
  | [] => []
  | c :: cs => .pins (c.extractLsb' 1 1) (c.extractLsb' 0 1) :: .sample :: sampleAll cs

/-- One move along the Gray cycle: +1, -1, or none (R74). -/
def grayMove (d : Int) (p : Phase) : Phase := if d = 1 then grayNext p else if d = -1 then grayPrev p else p

/-- The phases a list of moves goes through (R224 `gray_sampled`). -/
def grayPath (p : Phase) : List Int → List Phase
  | [] => []
  | d :: ds => grayMove d p :: grayPath (grayMove d p) ds

/-- The last of a list of phases, `p` where there is none. -/
def lastPhase (p : Phase) : List Phase → Phase
  | [] => p
  | c :: cs => lastPhase c cs

end Sys2Proof.Safety
end

