-- ==== Sys2Proof/Certificates/Slice0/Obligations.lean ====
section
/-! DEFINITION. The statements for the provers, each from the numbered rules of spec/. -/

open Sys2Proof Sys2Proof.Machine Sys2Proof.Safety

/-! ## Encodings -/

/-- R74, R76 to R78, R83, R91: under every policy that a row applies to, the word of a well-formed instruction
decodes to that instruction. -/
def Obligations.DecodeOfEncode : Prop :=
  ∀ (i : Instr) (m : Mode), i.wf = true → i.appliesUnder m = true → decodeRequest m (encode i) = .ok i

/-- R85, R91: a word that decodes is the word of its instruction, which is well-formed and applies under the
policy in force. So no two instructions share a word under one policy. -/
def Obligations.EncodeOfDecode : Prop :=
  ∀ (m : Mode) (r : RequestWord) (i : Instr), decodeRequest m r = .ok i →
    encode i = r ∧ i.wf = true ∧ i.appliesUnder m = true

/-- Words written out from R74, R83, R76 and 95_test_vectors.md V-SRC-8, V-DEC-16 and V-FSM-4. -/
def Obligations.WrittenWordsDecode : Prop :=
  decodeTransition 0b0111#4 = .t0111 ∧
  decodeStim 0b00010010#8 = .ok (.pins 1#1 0#1) ∧
  decodeStim 0b00100000#8 = .ok .sample ∧
  decodeStim 0b00111111#8 = .ok .accMinus ∧
  decodeStim 0b01010000#8 = .ok .dispatch ∧
  decodeStim 0b11110000#8 = .ok .reset ∧
  decodeMidi .relative 0x0BB01001#32 = .ok (.msgRelPlus 0x0#4 0x10#8) ∧
  decodeMidi .relative 0x0BBF077F#32 = .ok (.msgRelMinus 0xF#4 0x07#8) ∧
  decodeMidi .absolute 0x0BB90064#32 = .ok (.msgAbs 0x9#4 0x00#8 0x64#8)

/-- R85, R186, R192(e): a program that holds one of the reserved words is refused by the step, wherever the word
stands, as long as the words before it have instructions. That the refusal is decided over the whole pending
program is the model's reading (log 9) of its own field `program` (log 4). -/
def Obligations.ReservedStimulusRefused : Prop :=
  ∀ (s : State) (pre post : List RequestWord) (op arg : BitVec 4),
    s.cfg.legal = true → s.program = pre ++ .stim (op ++ arg) :: post →
    (∀ r ∈ pre, ∃ i, decodeRequest s.cfg.mode r = .ok i) →
    (op = 0x0#4 ∨ (0x8#4 ≤ op ∧ op ≤ 0xE#4) ∨
      (op = 0x1#4 ∧ arg.extractLsb' 2 2 ≠ 0b00#2) ∨
      (op = 0x3#4 ∧ arg ≠ 0b0000#4 ∧ arg ≠ 0b0001#4 ∧ arg ≠ 0b1111#4) ∨
      (op ≠ 0x1#4 ∧ op ≠ 0x3#4 ∧ arg ≠ 0b0000#4)) →
    step s = .refused .reservedStimulus

/-- R33: a configuration outside its ranges is refused, by the step and by every operation. -/
def Obligations.IllegalConfigRefused : Prop :=
  ∀ s : State, (15 < s.cfg.channel ∨ 127 < s.cfg.cc ∨ 127 < s.cfg.initValue ∨ s.cfg.accW < 11) →
    step s = .refused .badConfig ∧ ∀ i : Instr, exec i s = .refused .badConfig

/-! ## The step -/

/-- R82, R58, R187: with no reserved word pending, the step performs the first request's instruction on the
state with that request taken off the program; on a next state the Transport has its turn (log 6). Where the
instruction is not enabled the request waits: the program keeps its word, and a drawn operation of another agent
is performed where it is enabled (log 4, log 8). A recorded fault stops the step (R185). -/
def Obligations.StepRunsDecodedRequest : Prop :=
  ∀ (s : State) (r : RequestWord) (rest : List RequestWord) (i : Instr),
    s.cfg.legal = true → noRefusal s → s.program = r :: rest → decodeRequest s.cfg.mode r = .ok i →
    step s = match exec i (s.setProgram rest) with
      | .next t => .next (transportTurn t)
      | .fault (.halted c) => .fault (.halted c)
      | .fault _ => .next (transportTurn (drawnOperation (agentOf i) s))
      | .refused x => .refused x

/-- The model's load of one word (log 4, log 9): the next step performs the instruction the decoder reads from
it, or waits with it, as any other request. -/
def Obligations.LoadedWordRuns : Prop :=
  ∀ (s : State) (nbits w : Nat) (i : Instr), s.cfg.legal = true → decodeTableWord nbits w = some i →
    step (s.withFetchWord nbits w) = match exec i ((s.withFetchWord nbits w).setProgram []) with
      | .next t => .next (transportTurn t)
      | .fault (.halted c) => .fault (.halted c)
      | .fault _ => .next (transportTurn (drawnOperation (agentOf i) (s.withFetchWord nbits w)))
      | .refused x => .refused x

/-- R187 (log 4 and log 8: which other operation is drawn, and that the agent of the stuck request does not step,
are the model's): a stuck request has no step and is not final. The step answers a next state with the same
program pending, from which the machine goes on. A stuck Sampler ticks nothing: `acc` and `prev_phase` change only
by a drain or a RESET. A stuck Dispatcher drains, schedules and emits nothing: `disp_state` and `rem` change only by
a RESET, and the trace only by a fault. -/
def Obligations.StuckRequestWaits : Prop :=
  ∀ (s : State) (r : RequestWord) (rest : List RequestWord) (i : Instr) (f : Fault),
    s.cfg.legal = true → noRefusal s → s.program = r :: rest → decodeRequest s.cfg.mode r = .ok i →
    exec i (s.setProgram rest) = .fault f → (∀ c, f ≠ .halted c) →
    ∃ t, step s = .next t ∧ t.program = s.program ∧ t.cfg = s.cfg ∧ s.draws < t.draws ∧
      (agentOf i = some .sampler →
        (t.acc = s.acc ∨ t.acc = 0) ∧ (t.prevPhase = s.prevPhase ∨ t.prevPhase = s.pinA ++ s.pinB)) ∧
      (agentOf i = some .dispatcher →
        ((t.dispState = s.dispState ∧ t.rem = s.rem) ∨ (t.dispState = .idle ∧ t.rem = 0)) ∧
        emittedOf t.trace = emittedOf s.trace ∧ (t.fault = none → t.trace = s.trace))

/-- R187 ("Stuck is not final"), R197: under POLLED a DISPATCH out of its slot is stuck, and the other agents'
operations can enable it. If the Sampler's SAMPLE (word 0x20) is the operation drawn while it waits and does not
overflow, DISPATCH is enabled next. A drawn operation of the waiting agent itself does nothing (log 8). -/
def Obligations.StuckIsNotFinal : Prop :=
  ∀ s : State, s.cfg.legal = true → s.fault = none → s.cfg.sched = .polled → s.dispState = .idle →
    s.pollSlot = some .sampler → fitsAcc s.cfg (s.acc + tickOf s.prevPhase (s.pinA ++ s.pinB)) = true →
    exec .dispatch s = .fault (.stuckPollSlot .dispatch) ∧
    (∃ u, exec .dispatch (performDrawn (agentOf .dispatch) 0x20#8 s) = .next u) ∧
    (∀ (w : Byte) (i : Instr), decodeStim w = .ok i → agentOf i = some .dispatcher →
      performDrawn (agentOf .dispatch) w s = s)

/-- R187, R196: a free run is never stuck. With no request pending and no fault recorded, the step answers a
next state, whatever is drawn; once a fault is recorded it stops (R185). -/
def Obligations.FreeRunIsNeverStuck : Prop :=
  ∀ s : State, s.cfg.legal = true → s.program = [] →
    (s.fault = none → ∃ t, step s = .next t ∧ t.program = [] ∧ s.draws < t.draws) ∧
    (∀ c, s.fault = some c → step s = .fault (.halted c))

/-- R33, R32: no step changes the configuration. -/
def Obligations.ConfigurationNeverChanges : Prop :=
  ∀ s t : State, step s = .next t → t.cfg = s.cfg

/-! ## DECODE -/

/-- R73, R74 (the two cycles are the inference R74 marks as its own): the direction table on all 16 codes, its classes, and its two cycles. -/
def Obligations.DirectionTable : Prop :=
  (∀ code : TransitionCode, dirtab code =
    if code = 0b0001#4 ∨ code = 0b0111#4 ∨ code = 0b1110#4 ∨ code = 0b1000#4 then 0b01#2
    else if code = 0b0010#4 ∨ code = 0b0100#4 ∨ code = 0b1101#4 ∨ code = 0b1011#4 then 0b11#2
    else 0b00#2) ∧
  dirValue 0b01#2 = 1 ∧ dirValue 0b11#2 = -1 ∧ dirValue 0b00#2 = 0 ∧
  (∀ p c : Phase, decodeDirection p c = dirtab (p ++ c)) ∧
  (∀ p c : Phase, (transitionClass p c = .noChange ↔ c = p) ∧
    (transitionClass p c = .twoBitJump ↔ c = p ^^^ 0b11#2) ∧
    (transitionClass p c = .validStep ↔ c = p ^^^ 0b01#2 ∨ c = p ^^^ 0b10#2)) ∧
  (∀ p c : Phase, tickOf p c = 0 ↔ transitionClass p c ≠ .validStep) ∧
  (∀ p c : Phase, tickOf p c = 1 ↔ c = grayNext p) ∧
  (∀ p c : Phase, tickOf p c = -1 ↔ c = grayPrev p) ∧
  grayNext 0#2 = 1#2 ∧ grayNext 1#2 = 3#2 ∧ grayNext 3#2 = 2#2 ∧ grayNext 2#2 = 0#2 ∧
  grayPrev 0#2 = 2#2 ∧ grayPrev 2#2 = 3#2 ∧ grayPrev 3#2 = 1#2 ∧ grayPrev 1#2 = 0#2

/-- R100, R101 (log 1: where the answer of a directly requested DECODE stands is the model's choice): every
transition code answers its direction, in every run, whatever the registers hold, and changes nothing else. -/
def Obligations.DecodeRowsAnswerTheirDirection : Prop :=
  ∀ s : State, s.cfg.legal = true →
    exec .t0000 s = .next { s with decodeOut := 0b00#2 } ∧
    exec .t0001 s = .next { s with decodeOut := 0b01#2 } ∧
    exec .t0010 s = .next { s with decodeOut := 0b11#2 } ∧
    exec .t0011 s = .next { s with decodeOut := 0b00#2 } ∧
    exec .t0100 s = .next { s with decodeOut := 0b11#2 } ∧
    exec .t0101 s = .next { s with decodeOut := 0b00#2 } ∧
    exec .t0110 s = .next { s with decodeOut := 0b00#2 } ∧
    exec .t0111 s = .next { s with decodeOut := 0b01#2 } ∧
    exec .t1000 s = .next { s with decodeOut := 0b01#2 } ∧
    exec .t1001 s = .next { s with decodeOut := 0b00#2 } ∧
    exec .t1010 s = .next { s with decodeOut := 0b00#2 } ∧
    exec .t1011 s = .next { s with decodeOut := 0b11#2 } ∧
    exec .t1100 s = .next { s with decodeOut := 0b00#2 } ∧
    exec .t1101 s = .next { s with decodeOut := 0b11#2 } ∧
    exec .t1110 s = .next { s with decodeOut := 0b01#2 } ∧
    exec .t1111 s = .next { s with decodeOut := 0b00#2 }

/-- R105 (a), (b), (c): reversal negates, inversion of both channels keeps, exchange of the channels negates. -/
def Obligations.DirtabSymmetries : Prop :=
  ∀ p c : Phase, tickOf c p = -tickOf p c ∧ tickOf (p ^^^ 3#2) (c ^^^ 3#2) = tickOf p c ∧
    tickOf (swapPhase p) (swapPhase c) = -tickOf p c

/-- R217, derived there from R74 and R102: of `k` valid steps in one direction with only the ends sampled, the decoder sees 0, one step in the
true direction, 0, or one step in the opposite direction, as `k` is 0, 1, 2 or 3 modulo 4. -/
def Obligations.MissedSamplesCountModuloFour : Prop :=
  ∀ (k : Nat) (p : Phase),
    tickOf p (grayNext^[k] p) = (if k % 4 = 1 then 1 else if k % 4 = 3 then -1 else 0) ∧
    tickOf p (grayPrev^[k] p) = (if k % 4 = 1 then -1 else if k % 4 = 3 then 1 else 0)

/-! ## PINS and SAMPLE -/

/-- R106: PINS writes both pins and nothing else, in any state without a fault. -/
def Obligations.PinsWritesBothPins : Prop :=
  ∀ (s : State) (a b : BitVec 1), s.cfg.legal = true → s.fault = none →
    exec (.pins a b) s = .next { s with pinA := a, pinB := b }

/-- R102: one SAMPLE. In its slot it adds the direction of (prev_phase, pins) to `acc` and takes the pins into
`prev_phase`; if a direction other than 0 leaves the range it faults and writes nothing else; out of its
slot under POLLED it has no step. -/
def Obligations.SampleDecodesAndAccumulates : Prop :=
  ∀ s : State, s.cfg.legal = true → s.fault = none →
    let d := tickOf s.prevPhase (s.pinA ++ s.pinB)
    ((s.cfg.sched = .polled → s.pollSlot = some .sampler) →
      (d = 0 ∨ (-(2 ^ (s.cfg.accW - 1)) ≤ s.acc + d ∧ s.acc + d ≤ 2 ^ (s.cfg.accW - 1) - 1) →
        exec .sample s = .next { s with
          prevPhase := s.pinA ++ s.pinB
          acc := s.acc + d
          pollSlot := if s.cfg.sched = .polled then some .dispatcher else s.pollSlot }) ∧
      (d ≠ 0 ∧ ¬(-(2 ^ (s.cfg.accW - 1)) ≤ s.acc + d ∧ s.acc + d ≤ 2 ^ (s.cfg.accW - 1) - 1) →
        exec .sample s = .next { s with
          fault := some .accOverflow
          trace := s.trace ++ [.fault (.accOverflow .sample s.acc d)] })) ∧
    (s.cfg.sched = .polled ∧ s.pollSlot ≠ some .sampler → exec .sample s = .fault (.stuckPollSlot .sample))

/-- R103: an invalid transition (no change, or a two-bit jump) has no effect but `prev_phase <- cur` and, under
POLLED, the slot; it needs no room in `acc`. -/
def Obligations.InvalidTransitionOnlyMovesPrevPhase : Prop :=
  ∀ s : State, s.cfg.legal = true → s.fault = none →
    (s.cfg.sched = .polled → s.pollSlot = some .sampler) →
    (s.pinA ++ s.pinB = s.prevPhase ∨ s.pinA ++ s.pinB = s.prevPhase ^^^ 0b11#2) →
    exec .sample s = .next { s with
      prevPhase := s.pinA ++ s.pinB
      pollSlot := if s.cfg.sched = .polled then some .dispatcher else s.pollSlot }

/-- R104, under ASYNC: when the pins have not changed since the last SAMPLE or RESET, SAMPLE changes nothing
at all. -/
def Obligations.SampleIsIdempotent : Prop :=
  ∀ (s t : State), s.cfg.sched = .async → (exec .sample s = .next t ∨ exec .reset s = .next t) →
    t.fault = none → exec .sample t = .next t

/-- R105 (e): under ASYNC, sampling any list of phases adds the sum of the directions of its consecutive pairs,
while the running sums stay in range, and leaves the last phase in `prev_phase`. -/
def Obligations.SampledDirectionsSum : Prop :=
  ∀ (phases : List Phase) (s : State), s.cfg.legal = true → s.fault = none → s.cfg.sched = .async →
    staysInRange s.cfg s.acc (ticksOf s.prevPhase phases) → fitsAcc s.cfg s.acc = true →
    ∃ a b, runAll (sampleAll phases) s = .next { s with
      pinA := a
      pinB := b
      prevPhase := lastPhase s.prevPhase phases
      acc := s.acc + sumOf (ticksOf s.prevPhase phases) }

/-- R224 `gray_sampled` with R105 (d): when every Gray step is sampled the count is exact. A path of moves +1,
-1 and 0 from the phase last sampled adds exactly the sum of the moves. -/
def Obligations.GraySampledCountIsExact : Prop :=
  ∀ (moves : List Int) (s : State), (∀ d ∈ moves, d = 1 ∨ d = -1 ∨ d = 0) →
    s.cfg.legal = true → s.fault = none → s.cfg.sched = .async →
    staysInRange s.cfg s.acc moves → fitsAcc s.cfg s.acc = true →
    ∃ t, runAll (sampleAll (grayPath s.prevPhase moves)) s = .next t ∧ t.acc = s.acc + sumOf moves ∧
      t.fault = none ∧ t.trace = s.trace

/-! ## ACC and DRAIN -/

/-- R121: the ACC stimuli. In the Sampler's slot the exact sum is written if it is in range, otherwise
ACC_OVERFLOW is raised with the operation, `acc` and `dir` and nothing else is written; out of the slot under
POLLED there is no step. -/
def Obligations.AccAddsExactlyOrFaults : Prop :=
  ∀ (s : State) (i : Instr) (d : Int), s.cfg.legal = true → s.fault = none →
    ((i = .accPlus ∧ d = 1) ∨ (i = .accMinus ∧ d = -1) ∨ (i = .accZero ∧ d = 0)) →
    ((s.cfg.sched = .polled → s.pollSlot = some .sampler) →
      (-(2 ^ (s.cfg.accW - 1)) ≤ s.acc + d ∧ s.acc + d ≤ 2 ^ (s.cfg.accW - 1) - 1 →
        exec i s = .next { s with
          acc := s.acc + d
          pollSlot := if s.cfg.sched = .polled then some .dispatcher else s.pollSlot }) ∧
      (¬(-(2 ^ (s.cfg.accW - 1)) ≤ s.acc + d ∧ s.acc + d ≤ 2 ^ (s.cfg.accW - 1) - 1) →
        exec i s = .next { s with
          fault := some .accOverflow
          trace := s.trace ++ [.fault (.accOverflow .acc s.acc d)] })) ∧
    (s.cfg.sched = .polled ∧ s.pollSlot ≠ some .sampler → exec i s = .fault (.stuckPollSlot .acc))

/-- R123, with the DRAIN of R122: the standalone DRAIN reports `acc`, zeroes it, and under POLLED ends the
iteration; with `disp_state` EMIT or FLUSH, or out of its slot, it has no step. -/
def Obligations.StandaloneDrainReportsAndZeroes : Prop :=
  ∀ s : State, s.cfg.legal = true → s.fault = none →
    (s.dispState = .idle → (s.cfg.sched = .polled → s.pollSlot = some .dispatcher) →
      exec .drain s = .next { s with
        acc := 0
        trace := s.trace ++ [.drainResult s.acc]
        pollSlot := if s.cfg.sched = .polled then some .sampler else s.pollSlot }) ∧
    (s.dispState = .emit ∨ s.dispState = .flush → exec .drain s = .fault (.stuckDispState .drain)) ∧
    (s.dispState = .idle → s.cfg.sched = .polled ∧ s.pollSlot ≠ some .dispatcher →
      exec .drain s = .fault (.stuckPollSlot .drain))

/-- R124, under ASYNC: after any list of ACC stimuli whose running sums stay in range, the drain returns the
exact signed sum since the last drain and leaves 0. -/
def Obligations.DrainReturnsExactSum : Prop :=
  ∀ (ds : List Int) (s : State), (∀ d ∈ ds, d = 1 ∨ d = -1 ∨ d = 0) →
    s.cfg.legal = true → s.fault = none → s.cfg.sched = .async → s.dispState = .idle →
    staysInRange s.cfg s.acc ds → fitsAcc s.cfg s.acc = true →
    runAll (ds.map accInstr ++ [.drain]) s = .next { s with
      acc := 0
      trace := s.trace ++ [.drainResult (s.acc + sumOf ds)] }

/-- R127, for the ACC stimuli alone: 1000 increments and 1000 decrements in any order from 0 never fault, in
any legal width, and drain to 0. -/
def Obligations.ThousandUpThousandDown : Prop :=
  ∀ (ds : List Int) (s : State), ds.Perm (List.replicate 1000 1 ++ List.replicate 1000 (-1)) →
    s.cfg.legal = true → s.fault = none → s.cfg.sched = .async → s.dispState = .idle → s.acc = 0 →
    runAll (ds.map accInstr ++ [.drain]) s = .next { s with trace := s.trace ++ [.drainResult 0] }

/-- R192(a), R125: of a tick and a drain in either order, the tick is in the drained value or stays in `acc`; it
is never lost and never counted twice. -/
def Obligations.TickAndDrainCommuteWithoutLoss : Prop :=
  ∀ (s : State) (i : Instr) (d : Int), ((i = .accPlus ∧ d = 1) ∨ (i = .accMinus ∧ d = -1)) →
    s.cfg.legal = true → s.fault = none → s.cfg.sched = .async → s.dispState = .idle →
    fitsAcc s.cfg (s.acc + d) = true →
    runAll [i, .drain] s = .next { s with acc := 0, trace := s.trace ++ [.drainResult (s.acc + d)] } ∧
    runAll [.drain, i] s = .next { s with acc := d, trace := s.trace ++ [.drainResult s.acc] }

/-! ## The dispatch cycle -/

/-- R141: DISPATCH, with all its cases: nothing drained; a relative delta; an absolute delta that moves the
value, and one that does not; and out of its slot under POLLED. -/
def Obligations.DispatchDrainsAndSchedules : Prop :=
  ∀ s : State, s.cfg.legal = true → s.fault = none → s.dispState = .idle →
    let v : BitVec 7 := BitVec.ofInt 7 (min (max ((s.ctrlValue.toNat : Int) + s.acc) 0) 127)
    let ended := if s.cfg.sched = .polled then some PollSlot.sampler else s.pollSlot
    ((s.cfg.sched = .polled → s.pollSlot = some .dispatcher) →
      (s.acc = 0 → exec .dispatch s = .next { s with pollSlot := ended }) ∧
      (s.acc ≠ 0 ∧ s.cfg.mode = .relative → exec .dispatch s = .next { s with
        acc := 0
        rem := s.acc.natAbs
        rdir := if s.acc < 0 then 1#1 else 0#1
        dispState := .emit }) ∧
      (s.acc ≠ 0 ∧ s.cfg.mode = .absolute ∧ v ≠ s.lastEmitted → exec .dispatch s = .next { s with
        acc := 0
        ctrlValue := v
        rem := 1
        dispState := .emit }) ∧
      (s.acc ≠ 0 ∧ s.cfg.mode = .absolute ∧ v = s.lastEmitted → exec .dispatch s = .next { s with
        acc := 0
        ctrlValue := v
        pollSlot := ended })) ∧
    (s.cfg.sched = .polled ∧ s.pollSlot ≠ some .dispatcher → exec .dispatch s = .fault (.stuckPollSlot .dispatch))

/-- R144, derived there from R143: `|d|` units of one sign applied with the clamp give the single clamp of `ctrl_value + d`. -/
def Obligations.ClampEqualsUnitSteps : Prop :=
  ∀ (x d : Int), 0 ≤ x → x ≤ 127 → clampUnits d.sign d.natAbs x = clampInt (x + d) 0 127

/-- R145: EMIT sends exactly one message, with the value the policy gives, counts down, and moves to FLUSH
after the last. Whether the Transport accepts is a free value (R149, log 6). -/
def Obligations.EmitSendsOneMessage : Prop :=
  ∀ s : State, s.cfg.legal = true → s.fault = none → s.dispState = .emit → 1 ≤ s.rem →
    let sent (val : Byte) : State := { s with
      rem := s.rem - 1
      dispState := if s.rem = 1 then .flush else .emit
      trace := s.trace ++ [.emit ⟨0x0B#8, 0xB0#8 ||| BitVec.ofNat 8 s.cfg.channel, BitVec.ofNat 8 s.cfg.cc, val⟩]
      queue := if Config.transportAccepts s.draws then
          s.queue ++ [⟨0x0B#8, 0xB0#8 ||| BitVec.ofNat 8 s.cfg.channel, BitVec.ofNat 8 s.cfg.cc, val⟩]
        else s.queue
      draws := s.draws + 1 }
    (s.cfg.mode = .relative → exec .emit s = .next (sent (if s.rdir = 0#1 then 0x01#8 else 0x7F#8))) ∧
    (s.cfg.mode = .absolute → exec .emit s =
      .next { sent (s.ctrlValue.zeroExtend 8) with lastEmitted := s.ctrlValue })

/-- R145, R148, R91 (log 7: that a message row is the EMIT sending that message is the model's choice): a
message row whose operands are the configuration's, under its policy, sends its message. -/
def Obligations.MessageRowsSendTheirMessage : Prop :=
  ∀ (s : State) (c : BitVec 4) (n : BitVec 7), s.cfg.legal = true → s.fault = none →
    s.dispState = .emit → 1 ≤ s.rem → s.cfg.channel = c.toNat → s.cfg.cc = n.toNat →
    let sent (val : Byte) : State := { s with
      rem := s.rem - 1
      dispState := if s.rem = 1 then .flush else .emit
      trace := s.trace ++ [.emit ⟨0x0B#8, 0xB#4 ++ c, n.zeroExtend 8, val⟩]
      queue := if Config.transportAccepts s.draws then s.queue ++ [⟨0x0B#8, 0xB#4 ++ c, n.zeroExtend 8, val⟩]
        else s.queue
      draws := s.draws + 1 }
    (s.cfg.mode = .relative → s.rdir = 0#1 →
      exec (.msgRelPlus c (n.zeroExtend 8)) s = .next (sent 0x01#8)) ∧
    (s.cfg.mode = .relative → s.rdir = 1#1 →
      exec (.msgRelMinus c (n.zeroExtend 8)) s = .next (sent 0x7F#8)) ∧
    (s.cfg.mode = .absolute → exec (.msgAbs c (n.zeroExtend 8) (s.ctrlValue.zeroExtend 8)) s =
      .next { sent (s.ctrlValue.zeroExtend 8) with lastEmitted := s.ctrlValue })

/-- R148, R91, R187 (log 7): a message row that does not apply, or names another message than EMIT would
send, has no step; and outside EMIT, but for the reserved state, a message row stops as EMIT does (R154). -/
def Obligations.OtherMessageRowsAreStuck : Prop :=
  ∀ (s : State) (c : BitVec 4) (n v : Byte), s.cfg.legal = true → s.fault = none →
    (s.dispState = .emit → 1 ≤ s.rem →
      (s.cfg.mode = .absolute ∨ s.rdir = 1#1 ∨ s.cfg.channel ≠ c.toNat ∨ s.cfg.cc ≠ n.toNat →
        exec (.msgRelPlus c n) s = .fault .stuckMessage) ∧
      (s.cfg.mode = .absolute ∨ s.rdir = 0#1 ∨ s.cfg.channel ≠ c.toNat ∨ s.cfg.cc ≠ n.toNat →
        exec (.msgRelMinus c n) s = .fault .stuckMessage) ∧
      (s.cfg.mode = .relative ∨ s.ctrlValue.toNat ≠ v.toNat ∨ s.cfg.channel ≠ c.toNat ∨ s.cfg.cc ≠ n.toNat →
        exec (.msgAbs c n v) s = .fault .stuckMessage)) ∧
    (s.dispState = .idle ∨ s.dispState = .flush →
      exec (.msgRelPlus c n) s = .fault (.stuckDispState .emit) ∧
      exec (.msgRelMinus c n) s = .fault (.stuckDispState .emit) ∧
      exec (.msgAbs c n v) s = .fault (.stuckDispState .emit))

/-- R146, R35, R37 (a): FLUSH is one flush event and the return to IDLE; under POLLED it ends the iteration. The
Transport delivers every queued message, in queue order (R200 with 92_eei_decisions.md D14; log 6). -/
def Obligations.FlushEndsTheCycle : Prop :=
  ∀ s : State, s.cfg.legal = true → s.fault = none → s.dispState = .flush →
    exec .flush s = .next { s with
      dispState := .idle
      pollSlot := if s.cfg.sched = .polled then some .sampler else s.pollSlot
      trace := s.trace ++ [.flush]
      delivered := s.delivered ++ s.queue
      queue := [] }

/-- R142, R140: under RELATIVE a whole cycle on a drained delta `d ≠ 0` sends `|d|` messages of its direction,
never merged, then one flush, and ends in IDLE with nothing left to send. -/
def Obligations.RelativeCycleSendsOneMessagePerTick : Prop :=
  ∀ s : State, s.cfg.legal = true → s.fault = none → s.dispState = .idle → s.cfg.mode = .relative →
    (s.cfg.sched = .polled → s.pollSlot = some .dispatcher) → s.acc ≠ 0 →
    ∃ t, runAll (cycleExpansion s.acc.natAbs) s = .next t ∧
      t.trace = s.trace ++ List.replicate s.acc.natAbs
        (.emit (buildMessage s.cfg (if s.acc < 0 then 0x7F#8 else 0x01#8))) ++ [.flush] ∧
      t.acc = 0 ∧ t.rem = 0 ∧ t.dispState = .idle ∧ t.fault = none ∧
      t.ctrlValue = s.ctrlValue ∧ t.lastEmitted = s.lastEmitted ∧ t.prevPhase = s.prevPhase

/-- R143, R156 (a), (b): under ABSOLUTE a whole cycle sends the clamped value once, if it differs from the value
last emitted, and nothing otherwise. -/
def Obligations.AbsoluteCycleSendsAtMostOneMessage : Prop :=
  ∀ s : State, s.cfg.legal = true → s.fault = none → s.dispState = .idle → s.cfg.mode = .absolute →
    (s.cfg.sched = .polled → s.pollSlot = some .dispatcher) → s.acc ≠ 0 →
    let v : BitVec 7 := BitVec.ofInt 7 (min (max ((s.ctrlValue.toNat : Int) + s.acc) 0) 127)
    (v ≠ s.lastEmitted → ∃ t, runAll (cycleExpansion 1) s = .next t ∧
      t.trace = s.trace ++ [.emit (buildMessage s.cfg (v.zeroExtend 8)), .flush] ∧
      t.acc = 0 ∧ t.rem = 0 ∧ t.dispState = .idle ∧ t.fault = none ∧ t.ctrlValue = v ∧ t.lastEmitted = v) ∧
    (v = s.lastEmitted → ∃ t, runAll (cycleExpansion 0) s = .next t ∧
      t.trace = s.trace ∧ t.acc = 0 ∧ t.dispState = .idle ∧ t.fault = none ∧ t.ctrlValue = v ∧ t.lastEmitted = v)

/-- R89: the words of TURN and CYCLE. -/
def Obligations.PseudoInstructionsAssemble : Prop :=
  (∀ a b : BitVec 1, assembleInstrs (turnExpansion a b) = [0b000100#6 ++ a ++ b, 0x20#8]) ∧
  (∀ n : Nat, assembleInstrs (cycleExpansion n) =
    0x50#8 :: (List.replicate n 0x60#8 ++ if 1 ≤ n then [0x70#8] else []))

/-- R140, R89 last paragraph: a cycle is DISPATCH, as many EMITs as it schedules, then FLUSH if there was one, and
`CYCLE n` with exactly that `n` ends in IDLE. With too large an `n` it is stuck at an EMIT, with too small an
`n ≥ 1` at its FLUSH. -/
def Obligations.CycleNeedsTheScheduledCount : Prop :=
  ∀ (s : State) (n : Nat), s.cfg.legal = true → s.fault = none → s.dispState = .idle →
    (s.cfg.sched = .polled → s.pollSlot = some .dispatcher) → s.rem = 0 →
    (n = scheduledMessages s → ∃ t, runAll (cycleExpansion n) s = .next t ∧
      t.dispState = .idle ∧ t.rem = 0 ∧ t.acc = 0 ∧ t.fault = none) ∧
    (scheduledMessages s < n → runAll (cycleExpansion n) s = .fault (.stuckDispState .emit)) ∧
    (1 ≤ n ∧ n < scheduledMessages s → runAll (cycleExpansion n) s = .fault (.stuckDispState .flush))

/-! ## RESET -/

/-- R210: RESET writes the initial values, captures the pins into `prev_phase` with no tick, and touches
neither the configuration, the pins, the trace, the Transport nor `fault`. -/
def Obligations.ResetInitialisesTheBlock : Prop :=
  ∀ s : State, s.cfg.legal = true → s.fault = none →
    exec .reset s = .next { s with
      prevPhase := s.pinA ++ s.pinB
      acc := 0
      ctrlValue := BitVec.ofNat 7 s.cfg.initValue
      lastEmitted := BitVec.ofNat 7 s.cfg.initValue
      dispState := .idle
      rem := 0
      rdir := 0#1
      pollSlot := if s.cfg.sched = .polled then some .sampler else s.pollSlot }

/-- R40, R211: the launch state holds the reset values, for every configuration and every pin levels; the trace
is empty (R212), and a RESET there changes nothing. -/
def Obligations.LaunchHoldsResetValues : Prop :=
  ∀ (cfg : Config) (a b : BitVec 1),
    let s := State.launch cfg a b
    s.prevPhase = a ++ b ∧ s.acc = 0 ∧ s.ctrlValue = BitVec.ofNat 7 cfg.initValue ∧
    s.lastEmitted = BitVec.ofNat 7 cfg.initValue ∧ s.dispState = .idle ∧ s.rem = 0 ∧ s.rdir = 0#1 ∧
    s.pollSlot = (if cfg.sched = .polled then some .sampler else none) ∧ s.fault = none ∧ s.trace = [] ∧
    s.cfg = cfg ∧ s.pinA = a ∧ s.pinB = b ∧
    (cfg.legal = true → exec .reset s = .next s)

/-- R210, corner case: a second RESET right after a RESET changes nothing, and changes only `prev_phase`,
without a tick, if the pins changed in between. -/
def Obligations.SecondResetChangesNothing : Prop :=
  ∀ (s t u : State) (a b : BitVec 1), exec .reset s = .next t → exec (.pins a b) t = .next u →
    exec .reset t = .next t ∧ exec .reset u = .next { u with prevPhase := a ++ b }

/-! ## Faults and stops -/

/-- R154: DISPATCH needs IDLE, EMIT needs EMIT, FLUSH needs FLUSH, the standalone DRAIN needs IDLE, and every
one of them needs `fault = NONE`. In any other state but the reserved one (R155) the stimulus has no step. -/
def Obligations.OutOfOrderDispatcherIsStuck : Prop :=
  ∀ s : State, s.cfg.legal = true →
    (s.fault = none → s.dispState ≠ .reserved →
      (s.dispState ≠ .idle → exec .dispatch s = .fault (.stuckDispState .dispatch) ∧
        exec .drain s = .fault (.stuckDispState .drain)) ∧
      (s.dispState ≠ .emit → exec .emit s = .fault (.stuckDispState .emit)) ∧
      (s.dispState ≠ .flush → exec .flush s = .fault (.stuckDispState .flush))) ∧
    (∀ c, s.fault = some c → exec .dispatch s = .fault (.halted c) ∧ exec .drain s = .fault (.halted c) ∧
      exec .emit s = .fault (.halted c) ∧ exec .flush s = .fault (.halted c))

/-- R155: in the reserved control state every Dispatcher stimulus raises FSM_ILLEGAL and writes nothing; and no
instruction writes the reserved encoding. -/
def Obligations.ReservedStateRaisesFsmIllegal : Prop :=
  (∀ s : State, s.cfg.legal = true → s.fault = none → s.dispState = .reserved →
    let faulted (op : OpName) : State := { s with
      fault := some .fsmIllegal
      trace := s.trace ++ [.fault (.fsmIllegal op .dispState 3)] }
    exec .dispatch s = .next (faulted .dispatch) ∧ exec .emit s = .next (faulted .emit) ∧
    exec .flush s = .next (faulted .flush) ∧ exec .drain s = .next (faulted .drain)) ∧
  (∀ (i : Instr) (s t : State), exec i s = .next t → t.dispState = .reserved → s.dispState = .reserved)

/-- R185: once a fault is recorded no agent has a step, RESET and PINS included, and the Transport stops too. The
message rows stop as EMIT does; that they are EMIT steps is the model's choice (log 7). -/
def Obligations.NoAgentStepsAfterFault : Prop :=
  ∀ (s : State) (c : FaultCode), s.cfg.legal = true → s.fault = some c →
    (∀ i ∈ [Instr.sample, .accPlus, .accMinus, .accZero, .drain, .dispatch, .emit, .flush, .reset],
      exec i s = .fault (.halted c)) ∧
    (∀ a b, exec (.pins a b) s = .fault (.halted c)) ∧
    (∀ ch n v, exec (.msgRelPlus ch n) s = .fault (.halted c) ∧ exec (.msgRelMinus ch n) s = .fault (.halted c) ∧
      exec (.msgAbs ch n v) s = .fault (.halted c)) ∧
    transportTurn s = s

/-- R185, R188: every fault is precise. An instruction that records a fault leaves the state before it, plus
`fault` and the fault event. -/
def Obligations.FaultsArePrecise : Prop :=
  ∀ (i : Instr) (s t : State), exec i s = .next t → t.fault ≠ s.fault →
    s.fault = none ∧ ∃ info : FaultInfo, t = { s with
      fault := some info.code
      trace := s.trace ++ [.fault info] }

/-- R184: SAMPLE and ACC can raise only ACC_OVERFLOW, the Dispatcher operations only FSM_ILLEGAL, and no other
instruction raises anything. -/
def Obligations.EachOperationHasOneFault : Prop :=
  ∀ (i : Instr) (s t : State) (c : FaultCode), exec i s = .next t → s.fault = none → t.fault = some c →
    (c = .accOverflow ∧ (i = .sample ∨ i = .accPlus ∨ i = .accMinus ∨ i = .accZero)) ∨
    (c = .fsmIllegal ∧ s.dispState = .reserved ∧
      i ≠ .sample ∧ i ≠ .accPlus ∧ i ≠ .accMinus ∧ i ≠ .accZero ∧ i ≠ .reset ∧ ∀ a b, i ≠ .pins a b)

/-! ## Frames -/

/-- R102, R121, R20: what SAMPLE and ACC leave alone, on a fault too. ACC also leaves `prev_phase`; without a
fault the trace is unchanged. -/
def Obligations.SamplerFrame : Prop :=
  ∀ (i : Instr) (s t : State), (i = .sample ∨ i = .accPlus ∨ i = .accMinus ∨ i = .accZero) →
    exec i s = .next t →
    t.cfg = s.cfg ∧ t.pinA = s.pinA ∧ t.pinB = s.pinB ∧ t.ctrlValue = s.ctrlValue ∧
    t.lastEmitted = s.lastEmitted ∧ t.dispState = s.dispState ∧ t.rem = s.rem ∧ t.rdir = s.rdir ∧
    t.queue = s.queue ∧ t.delivered = s.delivered ∧ t.decodeOut = s.decodeOut ∧ t.program = s.program ∧
    t.draws = s.draws ∧ (i ≠ .sample → t.prevPhase = s.prevPhase) ∧
    (t.fault = s.fault → t.trace = s.trace) ∧
    (t.fault ≠ s.fault → t.acc = s.acc ∧ t.prevPhase = s.prevPhase ∧ t.pollSlot = s.pollSlot) ∧
    (s.cfg.sched = .async → t.pollSlot = s.pollSlot)

/-- R141, R123, R153: what DISPATCH and the standalone DRAIN leave alone; DRAIN also leaves the dispatch
registers, DISPATCH the trace unless it faults. -/
def Obligations.DispatchAndDrainFrame : Prop :=
  ∀ (i : Instr) (s t : State), (i = .dispatch ∨ i = .drain) → exec i s = .next t →
    t.cfg = s.cfg ∧ t.pinA = s.pinA ∧ t.pinB = s.pinB ∧ t.prevPhase = s.prevPhase ∧
    t.lastEmitted = s.lastEmitted ∧ t.queue = s.queue ∧ t.delivered = s.delivered ∧
    t.decodeOut = s.decodeOut ∧ t.program = s.program ∧ t.draws = s.draws ∧
    (s.cfg.mode = .relative → t.ctrlValue = s.ctrlValue) ∧ (s.cfg.mode = .absolute → t.rdir = s.rdir) ∧
    (s.cfg.sched = .async → t.pollSlot = s.pollSlot) ∧
    (i = .drain → t.ctrlValue = s.ctrlValue ∧ t.dispState = s.dispState ∧ t.rem = s.rem ∧ t.rdir = s.rdir) ∧
    (i = .dispatch → t.fault = s.fault → t.trace = s.trace) ∧
    (t.fault ≠ s.fault → t.acc = s.acc ∧ t.ctrlValue = s.ctrlValue ∧ t.dispState = s.dispState ∧
      t.rem = s.rem ∧ t.rdir = s.rdir ∧ t.pollSlot = s.pollSlot)

/-- R145, R146: what EMIT, the message rows and FLUSH leave alone. EMIT never reads or writes `acc` and does
not flush: it delivers nothing. FLUSH leaves the registers of the messages. -/
def Obligations.EmitAndFlushFrame : Prop :=
  ∀ (i : Instr) (s t : State), (i = .emit ∨ i = .flush ∨ (∃ c n, i = .msgRelPlus c n) ∨
      (∃ c n, i = .msgRelMinus c n) ∨ (∃ c n v, i = .msgAbs c n v)) → exec i s = .next t →
    t.cfg = s.cfg ∧ t.pinA = s.pinA ∧ t.pinB = s.pinB ∧ t.prevPhase = s.prevPhase ∧ t.acc = s.acc ∧
    t.ctrlValue = s.ctrlValue ∧ t.rdir = s.rdir ∧ t.decodeOut = s.decodeOut ∧ t.program = s.program ∧
    (s.cfg.mode = .relative → t.lastEmitted = s.lastEmitted) ∧
    (i = .flush → t.rem = s.rem ∧ t.lastEmitted = s.lastEmitted) ∧
    (i ≠ .flush → t.delivered = s.delivered ∧ t.pollSlot = s.pollSlot) ∧
    (s.cfg.sched = .async → t.pollSlot = s.pollSlot) ∧
    (t.fault ≠ s.fault → t.rem = s.rem ∧ t.lastEmitted = s.lastEmitted ∧ t.dispState = s.dispState ∧
      t.pollSlot = s.pollSlot ∧ t.queue = s.queue ∧ t.delivered = s.delivered ∧ t.draws = s.draws)

/-- R41, R210, R106, R101: what RESET, PINS and DECODE leave alone. None of them writes the trace, the
Transport, the fault register or the program; PINS and DECODE write no register of the block at all. -/
def Obligations.ResetPinsAndDecodeFrame : Prop :=
  ∀ (i : Instr) (s t : State), exec i s = .next t →
    (i = .reset → t.cfg = s.cfg ∧ t.pinA = s.pinA ∧ t.pinB = s.pinB ∧ t.fault = s.fault ∧ t.trace = s.trace ∧
      t.queue = s.queue ∧ t.delivered = s.delivered ∧ t.decodeOut = s.decodeOut ∧ t.program = s.program ∧
      t.draws = s.draws ∧ (s.cfg.sched = .async → t.pollSlot = s.pollSlot)) ∧
    (∀ a b, i = .pins a b → t = { s with pinA := t.pinA, pinB := t.pinB }) ∧
    (i ∈ [Instr.t0000, .t0001, .t0010, .t0011, .t0100, .t0101, .t0110, .t0111, .t1000, .t1001, .t1010,
        .t1011, .t1100, .t1101, .t1110, .t1111] → t = { s with decodeOut := t.decodeOut })

/-! ## Non-interference -/

/-- R153: under RELATIVE no operation but RESET reads or writes `ctrl_value` or `last_emitted`; under ABSOLUTE
no operation reads `rdir`, and none but RESET writes it. Put any value there, and the answer is the same but
for that value. -/
def Obligations.PoliciesAreKeptApart : Prop :=
  ∀ (i : Instr) (s : State) (v l : BitVec 7) (r : BitVec 1), i ≠ .reset →
    (s.cfg.mode = .relative → exec i { s with ctrlValue := v, lastEmitted := l } =
      viewResult (fun t => { t with ctrlValue := v, lastEmitted := l }) (exec i s)) ∧
    (s.cfg.mode = .absolute → exec i { s with rdir := r } =
      viewResult (fun t => { t with rdir := r }) (exec i s))

/-- R200, R149, R182: the block cannot see the Transport. Two states that differ only in the Transport's queue,
in what the host has received, and in the draws, answer alike; and the Transport's turn changes nothing of the
block and its trace. -/
def Obligations.TransportIsInvisible : Prop :=
  (∀ (i : Instr) (s s' : State), blockView s = blockView s' →
    viewResult blockView (exec i s) = viewResult blockView (exec i s')) ∧
  (∀ s : State, blockView (transportTurn s) = blockView s)

/-! ## Invariants that every step keeps -/

/-- R38, R39, R23, R29, R81, R156: every step keeps the register invariant. -/
def Obligations.StepKeepsRegisterInvariant : Prop :=
  ∀ s t : State, RegInv s → step s = .next t → RegInv t

/-- R197, R152: under POLLED every step keeps the polling order: no drained delta outside {-1, 0, +1}, no cycle
with more than one message. -/
def Obligations.StepKeepsPollingOrder : Prop :=
  ∀ s t : State, s.cfg.sched = .polled → PollInv s → step s = .next t → PollInv t

/-- R151, R61, R219: every step keeps flush placement: each flush event comes directly after the emit event that
ends its cycle. -/
def Obligations.StepKeepsFlushPlacement : Prop :=
  ∀ s t : State, FlushInv s → step s = .next t → FlushInv t

/-- R76 to R78, R86, R148: every step keeps the message format: every message ever emitted is built from the
configuration, with a value byte its policy produces. -/
def Obligations.StepKeepsMessageFormat : Prop :=
  ∀ s t : State, MessageInv s → step s = .next t → MessageInv t

/-- R200: every step keeps the host table: what the host has received and what is queued is a subsequence of the
emitted messages, in trace order. -/
def Obligations.StepKeepsHostSubsequence : Prop :=
  ∀ s t : State, TransportInv s → step s = .next t → TransportInv t

/-- R40, R211: every launch state meets every invariant above, and is quiescent (R223). -/
def Obligations.LaunchMeetsInvariants : Prop :=
  ∀ (cfg : Config) (a b : BitVec 1),
    let s := State.launch cfg a b
    RegInv s ∧ (cfg.sched = .polled → PollInv s) ∧ FlushInv s ∧ MessageInv s ∧ TransportInv s ∧ quiescent s

/-- R86, R90: in a legal configuration a message built from it with a value the policy produces has
m0 = 0x0B, high nibble 0xB in m1, and bit 7 clear in m2 and m3. -/
def Obligations.MessageBytesAreNeverReserved : Prop :=
  ∀ (cfg : Config) (v : Byte), cfg.legal = true → policyValue cfg.mode v →
    (buildMessage cfg v).m0 = 0x0B#8 ∧ (buildMessage cfg v).m1.extractLsb' 4 4 = 0xB#4 ∧
    ((buildMessage cfg v).m1.extractLsb' 0 4).toNat = cfg.channel ∧
    (buildMessage cfg v).m2.toNat = cfg.cc ∧ (buildMessage cfg v).m2 < 0x80#8 ∧
    (buildMessage cfg v).m3 = v ∧ v < 0x80#8
end

