-- ==== Sys2Proof/Laws/State.lean ====
section
/-! SUPPORT. What each update of State does to each field: one lemma per field per update, true by rfl. -/

namespace Sys2Proof.Machine

variable (s : State)

@[simp] theorem setCfg_cfg (x : Config) : (s.setCfg x).cfg = x := rfl
@[simp] theorem setCfg_pinA (x : Config) : (s.setCfg x).pinA = s.pinA := rfl
@[simp] theorem setCfg_pinB (x : Config) : (s.setCfg x).pinB = s.pinB := rfl
@[simp] theorem setCfg_prevPhase (x : Config) : (s.setCfg x).prevPhase = s.prevPhase := rfl
@[simp] theorem setCfg_acc (x : Config) : (s.setCfg x).acc = s.acc := rfl
@[simp] theorem setCfg_ctrlValue (x : Config) : (s.setCfg x).ctrlValue = s.ctrlValue := rfl
@[simp] theorem setCfg_lastEmitted (x : Config) : (s.setCfg x).lastEmitted = s.lastEmitted := rfl
@[simp] theorem setCfg_dispState (x : Config) : (s.setCfg x).dispState = s.dispState := rfl
@[simp] theorem setCfg_rem (x : Config) : (s.setCfg x).rem = s.rem := rfl
@[simp] theorem setCfg_rdir (x : Config) : (s.setCfg x).rdir = s.rdir := rfl
@[simp] theorem setCfg_pollSlot (x : Config) : (s.setCfg x).pollSlot = s.pollSlot := rfl
@[simp] theorem setCfg_fault (x : Config) : (s.setCfg x).fault = s.fault := rfl
@[simp] theorem setCfg_trace (x : Config) : (s.setCfg x).trace = s.trace := rfl
@[simp] theorem setCfg_queue (x : Config) : (s.setCfg x).queue = s.queue := rfl
@[simp] theorem setCfg_delivered (x : Config) : (s.setCfg x).delivered = s.delivered := rfl
@[simp] theorem setCfg_decodeOut (x : Config) : (s.setCfg x).decodeOut = s.decodeOut := rfl
@[simp] theorem setCfg_program (x : Config) : (s.setCfg x).program = s.program := rfl
@[simp] theorem setCfg_draws (x : Config) : (s.setCfg x).draws = s.draws := rfl

@[simp] theorem setPinA_cfg (x : BitVec 1) : (s.setPinA x).cfg = s.cfg := rfl
@[simp] theorem setPinA_pinA (x : BitVec 1) : (s.setPinA x).pinA = x := rfl
@[simp] theorem setPinA_pinB (x : BitVec 1) : (s.setPinA x).pinB = s.pinB := rfl
@[simp] theorem setPinA_prevPhase (x : BitVec 1) : (s.setPinA x).prevPhase = s.prevPhase := rfl
@[simp] theorem setPinA_acc (x : BitVec 1) : (s.setPinA x).acc = s.acc := rfl
@[simp] theorem setPinA_ctrlValue (x : BitVec 1) : (s.setPinA x).ctrlValue = s.ctrlValue := rfl
@[simp] theorem setPinA_lastEmitted (x : BitVec 1) : (s.setPinA x).lastEmitted = s.lastEmitted := rfl
@[simp] theorem setPinA_dispState (x : BitVec 1) : (s.setPinA x).dispState = s.dispState := rfl
@[simp] theorem setPinA_rem (x : BitVec 1) : (s.setPinA x).rem = s.rem := rfl
@[simp] theorem setPinA_rdir (x : BitVec 1) : (s.setPinA x).rdir = s.rdir := rfl
@[simp] theorem setPinA_pollSlot (x : BitVec 1) : (s.setPinA x).pollSlot = s.pollSlot := rfl
@[simp] theorem setPinA_fault (x : BitVec 1) : (s.setPinA x).fault = s.fault := rfl
@[simp] theorem setPinA_trace (x : BitVec 1) : (s.setPinA x).trace = s.trace := rfl
@[simp] theorem setPinA_queue (x : BitVec 1) : (s.setPinA x).queue = s.queue := rfl
@[simp] theorem setPinA_delivered (x : BitVec 1) : (s.setPinA x).delivered = s.delivered := rfl
@[simp] theorem setPinA_decodeOut (x : BitVec 1) : (s.setPinA x).decodeOut = s.decodeOut := rfl
@[simp] theorem setPinA_program (x : BitVec 1) : (s.setPinA x).program = s.program := rfl
@[simp] theorem setPinA_draws (x : BitVec 1) : (s.setPinA x).draws = s.draws := rfl

@[simp] theorem setPinB_cfg (x : BitVec 1) : (s.setPinB x).cfg = s.cfg := rfl
@[simp] theorem setPinB_pinA (x : BitVec 1) : (s.setPinB x).pinA = s.pinA := rfl
@[simp] theorem setPinB_pinB (x : BitVec 1) : (s.setPinB x).pinB = x := rfl
@[simp] theorem setPinB_prevPhase (x : BitVec 1) : (s.setPinB x).prevPhase = s.prevPhase := rfl
@[simp] theorem setPinB_acc (x : BitVec 1) : (s.setPinB x).acc = s.acc := rfl
@[simp] theorem setPinB_ctrlValue (x : BitVec 1) : (s.setPinB x).ctrlValue = s.ctrlValue := rfl
@[simp] theorem setPinB_lastEmitted (x : BitVec 1) : (s.setPinB x).lastEmitted = s.lastEmitted := rfl
@[simp] theorem setPinB_dispState (x : BitVec 1) : (s.setPinB x).dispState = s.dispState := rfl
@[simp] theorem setPinB_rem (x : BitVec 1) : (s.setPinB x).rem = s.rem := rfl
@[simp] theorem setPinB_rdir (x : BitVec 1) : (s.setPinB x).rdir = s.rdir := rfl
@[simp] theorem setPinB_pollSlot (x : BitVec 1) : (s.setPinB x).pollSlot = s.pollSlot := rfl
@[simp] theorem setPinB_fault (x : BitVec 1) : (s.setPinB x).fault = s.fault := rfl
@[simp] theorem setPinB_trace (x : BitVec 1) : (s.setPinB x).trace = s.trace := rfl
@[simp] theorem setPinB_queue (x : BitVec 1) : (s.setPinB x).queue = s.queue := rfl
@[simp] theorem setPinB_delivered (x : BitVec 1) : (s.setPinB x).delivered = s.delivered := rfl
@[simp] theorem setPinB_decodeOut (x : BitVec 1) : (s.setPinB x).decodeOut = s.decodeOut := rfl
@[simp] theorem setPinB_program (x : BitVec 1) : (s.setPinB x).program = s.program := rfl
@[simp] theorem setPinB_draws (x : BitVec 1) : (s.setPinB x).draws = s.draws := rfl

@[simp] theorem setPrevPhase_cfg (x : Phase) : (s.setPrevPhase x).cfg = s.cfg := rfl
@[simp] theorem setPrevPhase_pinA (x : Phase) : (s.setPrevPhase x).pinA = s.pinA := rfl
@[simp] theorem setPrevPhase_pinB (x : Phase) : (s.setPrevPhase x).pinB = s.pinB := rfl
@[simp] theorem setPrevPhase_prevPhase (x : Phase) : (s.setPrevPhase x).prevPhase = x := rfl
@[simp] theorem setPrevPhase_acc (x : Phase) : (s.setPrevPhase x).acc = s.acc := rfl
@[simp] theorem setPrevPhase_ctrlValue (x : Phase) : (s.setPrevPhase x).ctrlValue = s.ctrlValue := rfl
@[simp] theorem setPrevPhase_lastEmitted (x : Phase) : (s.setPrevPhase x).lastEmitted = s.lastEmitted := rfl
@[simp] theorem setPrevPhase_dispState (x : Phase) : (s.setPrevPhase x).dispState = s.dispState := rfl
@[simp] theorem setPrevPhase_rem (x : Phase) : (s.setPrevPhase x).rem = s.rem := rfl
@[simp] theorem setPrevPhase_rdir (x : Phase) : (s.setPrevPhase x).rdir = s.rdir := rfl
@[simp] theorem setPrevPhase_pollSlot (x : Phase) : (s.setPrevPhase x).pollSlot = s.pollSlot := rfl
@[simp] theorem setPrevPhase_fault (x : Phase) : (s.setPrevPhase x).fault = s.fault := rfl
@[simp] theorem setPrevPhase_trace (x : Phase) : (s.setPrevPhase x).trace = s.trace := rfl
@[simp] theorem setPrevPhase_queue (x : Phase) : (s.setPrevPhase x).queue = s.queue := rfl
@[simp] theorem setPrevPhase_delivered (x : Phase) : (s.setPrevPhase x).delivered = s.delivered := rfl
@[simp] theorem setPrevPhase_decodeOut (x : Phase) : (s.setPrevPhase x).decodeOut = s.decodeOut := rfl
@[simp] theorem setPrevPhase_program (x : Phase) : (s.setPrevPhase x).program = s.program := rfl
@[simp] theorem setPrevPhase_draws (x : Phase) : (s.setPrevPhase x).draws = s.draws := rfl

@[simp] theorem setAcc_cfg (x : Int) : (s.setAcc x).cfg = s.cfg := rfl
@[simp] theorem setAcc_pinA (x : Int) : (s.setAcc x).pinA = s.pinA := rfl
@[simp] theorem setAcc_pinB (x : Int) : (s.setAcc x).pinB = s.pinB := rfl
@[simp] theorem setAcc_prevPhase (x : Int) : (s.setAcc x).prevPhase = s.prevPhase := rfl
@[simp] theorem setAcc_acc (x : Int) : (s.setAcc x).acc = x := rfl
@[simp] theorem setAcc_ctrlValue (x : Int) : (s.setAcc x).ctrlValue = s.ctrlValue := rfl
@[simp] theorem setAcc_lastEmitted (x : Int) : (s.setAcc x).lastEmitted = s.lastEmitted := rfl
@[simp] theorem setAcc_dispState (x : Int) : (s.setAcc x).dispState = s.dispState := rfl
@[simp] theorem setAcc_rem (x : Int) : (s.setAcc x).rem = s.rem := rfl
@[simp] theorem setAcc_rdir (x : Int) : (s.setAcc x).rdir = s.rdir := rfl
@[simp] theorem setAcc_pollSlot (x : Int) : (s.setAcc x).pollSlot = s.pollSlot := rfl
@[simp] theorem setAcc_fault (x : Int) : (s.setAcc x).fault = s.fault := rfl
@[simp] theorem setAcc_trace (x : Int) : (s.setAcc x).trace = s.trace := rfl
@[simp] theorem setAcc_queue (x : Int) : (s.setAcc x).queue = s.queue := rfl
@[simp] theorem setAcc_delivered (x : Int) : (s.setAcc x).delivered = s.delivered := rfl
@[simp] theorem setAcc_decodeOut (x : Int) : (s.setAcc x).decodeOut = s.decodeOut := rfl
@[simp] theorem setAcc_program (x : Int) : (s.setAcc x).program = s.program := rfl
@[simp] theorem setAcc_draws (x : Int) : (s.setAcc x).draws = s.draws := rfl

@[simp] theorem setCtrlValue_cfg (x : BitVec 7) : (s.setCtrlValue x).cfg = s.cfg := rfl
@[simp] theorem setCtrlValue_pinA (x : BitVec 7) : (s.setCtrlValue x).pinA = s.pinA := rfl
@[simp] theorem setCtrlValue_pinB (x : BitVec 7) : (s.setCtrlValue x).pinB = s.pinB := rfl
@[simp] theorem setCtrlValue_prevPhase (x : BitVec 7) : (s.setCtrlValue x).prevPhase = s.prevPhase := rfl
@[simp] theorem setCtrlValue_acc (x : BitVec 7) : (s.setCtrlValue x).acc = s.acc := rfl
@[simp] theorem setCtrlValue_ctrlValue (x : BitVec 7) : (s.setCtrlValue x).ctrlValue = x := rfl
@[simp] theorem setCtrlValue_lastEmitted (x : BitVec 7) : (s.setCtrlValue x).lastEmitted = s.lastEmitted := rfl
@[simp] theorem setCtrlValue_dispState (x : BitVec 7) : (s.setCtrlValue x).dispState = s.dispState := rfl
@[simp] theorem setCtrlValue_rem (x : BitVec 7) : (s.setCtrlValue x).rem = s.rem := rfl
@[simp] theorem setCtrlValue_rdir (x : BitVec 7) : (s.setCtrlValue x).rdir = s.rdir := rfl
@[simp] theorem setCtrlValue_pollSlot (x : BitVec 7) : (s.setCtrlValue x).pollSlot = s.pollSlot := rfl
@[simp] theorem setCtrlValue_fault (x : BitVec 7) : (s.setCtrlValue x).fault = s.fault := rfl
@[simp] theorem setCtrlValue_trace (x : BitVec 7) : (s.setCtrlValue x).trace = s.trace := rfl
@[simp] theorem setCtrlValue_queue (x : BitVec 7) : (s.setCtrlValue x).queue = s.queue := rfl
@[simp] theorem setCtrlValue_delivered (x : BitVec 7) : (s.setCtrlValue x).delivered = s.delivered := rfl
@[simp] theorem setCtrlValue_decodeOut (x : BitVec 7) : (s.setCtrlValue x).decodeOut = s.decodeOut := rfl
@[simp] theorem setCtrlValue_program (x : BitVec 7) : (s.setCtrlValue x).program = s.program := rfl
@[simp] theorem setCtrlValue_draws (x : BitVec 7) : (s.setCtrlValue x).draws = s.draws := rfl

@[simp] theorem setLastEmitted_cfg (x : BitVec 7) : (s.setLastEmitted x).cfg = s.cfg := rfl
@[simp] theorem setLastEmitted_pinA (x : BitVec 7) : (s.setLastEmitted x).pinA = s.pinA := rfl
@[simp] theorem setLastEmitted_pinB (x : BitVec 7) : (s.setLastEmitted x).pinB = s.pinB := rfl
@[simp] theorem setLastEmitted_prevPhase (x : BitVec 7) : (s.setLastEmitted x).prevPhase = s.prevPhase := rfl
@[simp] theorem setLastEmitted_acc (x : BitVec 7) : (s.setLastEmitted x).acc = s.acc := rfl
@[simp] theorem setLastEmitted_ctrlValue (x : BitVec 7) : (s.setLastEmitted x).ctrlValue = s.ctrlValue := rfl
@[simp] theorem setLastEmitted_lastEmitted (x : BitVec 7) : (s.setLastEmitted x).lastEmitted = x := rfl
@[simp] theorem setLastEmitted_dispState (x : BitVec 7) : (s.setLastEmitted x).dispState = s.dispState := rfl
@[simp] theorem setLastEmitted_rem (x : BitVec 7) : (s.setLastEmitted x).rem = s.rem := rfl
@[simp] theorem setLastEmitted_rdir (x : BitVec 7) : (s.setLastEmitted x).rdir = s.rdir := rfl
@[simp] theorem setLastEmitted_pollSlot (x : BitVec 7) : (s.setLastEmitted x).pollSlot = s.pollSlot := rfl
@[simp] theorem setLastEmitted_fault (x : BitVec 7) : (s.setLastEmitted x).fault = s.fault := rfl
@[simp] theorem setLastEmitted_trace (x : BitVec 7) : (s.setLastEmitted x).trace = s.trace := rfl
@[simp] theorem setLastEmitted_queue (x : BitVec 7) : (s.setLastEmitted x).queue = s.queue := rfl
@[simp] theorem setLastEmitted_delivered (x : BitVec 7) : (s.setLastEmitted x).delivered = s.delivered := rfl
@[simp] theorem setLastEmitted_decodeOut (x : BitVec 7) : (s.setLastEmitted x).decodeOut = s.decodeOut := rfl
@[simp] theorem setLastEmitted_program (x : BitVec 7) : (s.setLastEmitted x).program = s.program := rfl
@[simp] theorem setLastEmitted_draws (x : BitVec 7) : (s.setLastEmitted x).draws = s.draws := rfl

@[simp] theorem setDispState_cfg (x : DispState) : (s.setDispState x).cfg = s.cfg := rfl
@[simp] theorem setDispState_pinA (x : DispState) : (s.setDispState x).pinA = s.pinA := rfl
@[simp] theorem setDispState_pinB (x : DispState) : (s.setDispState x).pinB = s.pinB := rfl
@[simp] theorem setDispState_prevPhase (x : DispState) : (s.setDispState x).prevPhase = s.prevPhase := rfl
@[simp] theorem setDispState_acc (x : DispState) : (s.setDispState x).acc = s.acc := rfl
@[simp] theorem setDispState_ctrlValue (x : DispState) : (s.setDispState x).ctrlValue = s.ctrlValue := rfl
@[simp] theorem setDispState_lastEmitted (x : DispState) : (s.setDispState x).lastEmitted = s.lastEmitted := rfl
@[simp] theorem setDispState_dispState (x : DispState) : (s.setDispState x).dispState = x := rfl
@[simp] theorem setDispState_rem (x : DispState) : (s.setDispState x).rem = s.rem := rfl
@[simp] theorem setDispState_rdir (x : DispState) : (s.setDispState x).rdir = s.rdir := rfl
@[simp] theorem setDispState_pollSlot (x : DispState) : (s.setDispState x).pollSlot = s.pollSlot := rfl
@[simp] theorem setDispState_fault (x : DispState) : (s.setDispState x).fault = s.fault := rfl
@[simp] theorem setDispState_trace (x : DispState) : (s.setDispState x).trace = s.trace := rfl
@[simp] theorem setDispState_queue (x : DispState) : (s.setDispState x).queue = s.queue := rfl
@[simp] theorem setDispState_delivered (x : DispState) : (s.setDispState x).delivered = s.delivered := rfl
@[simp] theorem setDispState_decodeOut (x : DispState) : (s.setDispState x).decodeOut = s.decodeOut := rfl
@[simp] theorem setDispState_program (x : DispState) : (s.setDispState x).program = s.program := rfl
@[simp] theorem setDispState_draws (x : DispState) : (s.setDispState x).draws = s.draws := rfl

@[simp] theorem setRem_cfg (x : Nat) : (s.setRem x).cfg = s.cfg := rfl
@[simp] theorem setRem_pinA (x : Nat) : (s.setRem x).pinA = s.pinA := rfl
@[simp] theorem setRem_pinB (x : Nat) : (s.setRem x).pinB = s.pinB := rfl
@[simp] theorem setRem_prevPhase (x : Nat) : (s.setRem x).prevPhase = s.prevPhase := rfl
@[simp] theorem setRem_acc (x : Nat) : (s.setRem x).acc = s.acc := rfl
@[simp] theorem setRem_ctrlValue (x : Nat) : (s.setRem x).ctrlValue = s.ctrlValue := rfl
@[simp] theorem setRem_lastEmitted (x : Nat) : (s.setRem x).lastEmitted = s.lastEmitted := rfl
@[simp] theorem setRem_dispState (x : Nat) : (s.setRem x).dispState = s.dispState := rfl
@[simp] theorem setRem_rem (x : Nat) : (s.setRem x).rem = x := rfl
@[simp] theorem setRem_rdir (x : Nat) : (s.setRem x).rdir = s.rdir := rfl
@[simp] theorem setRem_pollSlot (x : Nat) : (s.setRem x).pollSlot = s.pollSlot := rfl
@[simp] theorem setRem_fault (x : Nat) : (s.setRem x).fault = s.fault := rfl
@[simp] theorem setRem_trace (x : Nat) : (s.setRem x).trace = s.trace := rfl
@[simp] theorem setRem_queue (x : Nat) : (s.setRem x).queue = s.queue := rfl
@[simp] theorem setRem_delivered (x : Nat) : (s.setRem x).delivered = s.delivered := rfl
@[simp] theorem setRem_decodeOut (x : Nat) : (s.setRem x).decodeOut = s.decodeOut := rfl
@[simp] theorem setRem_program (x : Nat) : (s.setRem x).program = s.program := rfl
@[simp] theorem setRem_draws (x : Nat) : (s.setRem x).draws = s.draws := rfl

@[simp] theorem setRdir_cfg (x : BitVec 1) : (s.setRdir x).cfg = s.cfg := rfl
@[simp] theorem setRdir_pinA (x : BitVec 1) : (s.setRdir x).pinA = s.pinA := rfl
@[simp] theorem setRdir_pinB (x : BitVec 1) : (s.setRdir x).pinB = s.pinB := rfl
@[simp] theorem setRdir_prevPhase (x : BitVec 1) : (s.setRdir x).prevPhase = s.prevPhase := rfl
@[simp] theorem setRdir_acc (x : BitVec 1) : (s.setRdir x).acc = s.acc := rfl
@[simp] theorem setRdir_ctrlValue (x : BitVec 1) : (s.setRdir x).ctrlValue = s.ctrlValue := rfl
@[simp] theorem setRdir_lastEmitted (x : BitVec 1) : (s.setRdir x).lastEmitted = s.lastEmitted := rfl
@[simp] theorem setRdir_dispState (x : BitVec 1) : (s.setRdir x).dispState = s.dispState := rfl
@[simp] theorem setRdir_rem (x : BitVec 1) : (s.setRdir x).rem = s.rem := rfl
@[simp] theorem setRdir_rdir (x : BitVec 1) : (s.setRdir x).rdir = x := rfl
@[simp] theorem setRdir_pollSlot (x : BitVec 1) : (s.setRdir x).pollSlot = s.pollSlot := rfl
@[simp] theorem setRdir_fault (x : BitVec 1) : (s.setRdir x).fault = s.fault := rfl
@[simp] theorem setRdir_trace (x : BitVec 1) : (s.setRdir x).trace = s.trace := rfl
@[simp] theorem setRdir_queue (x : BitVec 1) : (s.setRdir x).queue = s.queue := rfl
@[simp] theorem setRdir_delivered (x : BitVec 1) : (s.setRdir x).delivered = s.delivered := rfl
@[simp] theorem setRdir_decodeOut (x : BitVec 1) : (s.setRdir x).decodeOut = s.decodeOut := rfl
@[simp] theorem setRdir_program (x : BitVec 1) : (s.setRdir x).program = s.program := rfl
@[simp] theorem setRdir_draws (x : BitVec 1) : (s.setRdir x).draws = s.draws := rfl

@[simp] theorem setPollSlot_cfg (x : Option PollSlot) : (s.setPollSlot x).cfg = s.cfg := rfl
@[simp] theorem setPollSlot_pinA (x : Option PollSlot) : (s.setPollSlot x).pinA = s.pinA := rfl
@[simp] theorem setPollSlot_pinB (x : Option PollSlot) : (s.setPollSlot x).pinB = s.pinB := rfl
@[simp] theorem setPollSlot_prevPhase (x : Option PollSlot) : (s.setPollSlot x).prevPhase = s.prevPhase := rfl
@[simp] theorem setPollSlot_acc (x : Option PollSlot) : (s.setPollSlot x).acc = s.acc := rfl
@[simp] theorem setPollSlot_ctrlValue (x : Option PollSlot) : (s.setPollSlot x).ctrlValue = s.ctrlValue := rfl
@[simp] theorem setPollSlot_lastEmitted (x : Option PollSlot) : (s.setPollSlot x).lastEmitted = s.lastEmitted := rfl
@[simp] theorem setPollSlot_dispState (x : Option PollSlot) : (s.setPollSlot x).dispState = s.dispState := rfl
@[simp] theorem setPollSlot_rem (x : Option PollSlot) : (s.setPollSlot x).rem = s.rem := rfl
@[simp] theorem setPollSlot_rdir (x : Option PollSlot) : (s.setPollSlot x).rdir = s.rdir := rfl
@[simp] theorem setPollSlot_pollSlot (x : Option PollSlot) : (s.setPollSlot x).pollSlot = x := rfl
@[simp] theorem setPollSlot_fault (x : Option PollSlot) : (s.setPollSlot x).fault = s.fault := rfl
@[simp] theorem setPollSlot_trace (x : Option PollSlot) : (s.setPollSlot x).trace = s.trace := rfl
@[simp] theorem setPollSlot_queue (x : Option PollSlot) : (s.setPollSlot x).queue = s.queue := rfl
@[simp] theorem setPollSlot_delivered (x : Option PollSlot) : (s.setPollSlot x).delivered = s.delivered := rfl
@[simp] theorem setPollSlot_decodeOut (x : Option PollSlot) : (s.setPollSlot x).decodeOut = s.decodeOut := rfl
@[simp] theorem setPollSlot_program (x : Option PollSlot) : (s.setPollSlot x).program = s.program := rfl
@[simp] theorem setPollSlot_draws (x : Option PollSlot) : (s.setPollSlot x).draws = s.draws := rfl

@[simp] theorem setFault_cfg (x : Option FaultCode) : (s.setFault x).cfg = s.cfg := rfl
@[simp] theorem setFault_pinA (x : Option FaultCode) : (s.setFault x).pinA = s.pinA := rfl
@[simp] theorem setFault_pinB (x : Option FaultCode) : (s.setFault x).pinB = s.pinB := rfl
@[simp] theorem setFault_prevPhase (x : Option FaultCode) : (s.setFault x).prevPhase = s.prevPhase := rfl
@[simp] theorem setFault_acc (x : Option FaultCode) : (s.setFault x).acc = s.acc := rfl
@[simp] theorem setFault_ctrlValue (x : Option FaultCode) : (s.setFault x).ctrlValue = s.ctrlValue := rfl
@[simp] theorem setFault_lastEmitted (x : Option FaultCode) : (s.setFault x).lastEmitted = s.lastEmitted := rfl
@[simp] theorem setFault_dispState (x : Option FaultCode) : (s.setFault x).dispState = s.dispState := rfl
@[simp] theorem setFault_rem (x : Option FaultCode) : (s.setFault x).rem = s.rem := rfl
@[simp] theorem setFault_rdir (x : Option FaultCode) : (s.setFault x).rdir = s.rdir := rfl
@[simp] theorem setFault_pollSlot (x : Option FaultCode) : (s.setFault x).pollSlot = s.pollSlot := rfl
@[simp] theorem setFault_fault (x : Option FaultCode) : (s.setFault x).fault = x := rfl
@[simp] theorem setFault_trace (x : Option FaultCode) : (s.setFault x).trace = s.trace := rfl
@[simp] theorem setFault_queue (x : Option FaultCode) : (s.setFault x).queue = s.queue := rfl
@[simp] theorem setFault_delivered (x : Option FaultCode) : (s.setFault x).delivered = s.delivered := rfl
@[simp] theorem setFault_decodeOut (x : Option FaultCode) : (s.setFault x).decodeOut = s.decodeOut := rfl
@[simp] theorem setFault_program (x : Option FaultCode) : (s.setFault x).program = s.program := rfl
@[simp] theorem setFault_draws (x : Option FaultCode) : (s.setFault x).draws = s.draws := rfl

@[simp] theorem setTrace_cfg (x : List Event) : (s.setTrace x).cfg = s.cfg := rfl
@[simp] theorem setTrace_pinA (x : List Event) : (s.setTrace x).pinA = s.pinA := rfl
@[simp] theorem setTrace_pinB (x : List Event) : (s.setTrace x).pinB = s.pinB := rfl
@[simp] theorem setTrace_prevPhase (x : List Event) : (s.setTrace x).prevPhase = s.prevPhase := rfl
@[simp] theorem setTrace_acc (x : List Event) : (s.setTrace x).acc = s.acc := rfl
@[simp] theorem setTrace_ctrlValue (x : List Event) : (s.setTrace x).ctrlValue = s.ctrlValue := rfl
@[simp] theorem setTrace_lastEmitted (x : List Event) : (s.setTrace x).lastEmitted = s.lastEmitted := rfl
@[simp] theorem setTrace_dispState (x : List Event) : (s.setTrace x).dispState = s.dispState := rfl
@[simp] theorem setTrace_rem (x : List Event) : (s.setTrace x).rem = s.rem := rfl
@[simp] theorem setTrace_rdir (x : List Event) : (s.setTrace x).rdir = s.rdir := rfl
@[simp] theorem setTrace_pollSlot (x : List Event) : (s.setTrace x).pollSlot = s.pollSlot := rfl
@[simp] theorem setTrace_fault (x : List Event) : (s.setTrace x).fault = s.fault := rfl
@[simp] theorem setTrace_trace (x : List Event) : (s.setTrace x).trace = x := rfl
@[simp] theorem setTrace_queue (x : List Event) : (s.setTrace x).queue = s.queue := rfl
@[simp] theorem setTrace_delivered (x : List Event) : (s.setTrace x).delivered = s.delivered := rfl
@[simp] theorem setTrace_decodeOut (x : List Event) : (s.setTrace x).decodeOut = s.decodeOut := rfl
@[simp] theorem setTrace_program (x : List Event) : (s.setTrace x).program = s.program := rfl
@[simp] theorem setTrace_draws (x : List Event) : (s.setTrace x).draws = s.draws := rfl

@[simp] theorem setQueue_cfg (x : List Message) : (s.setQueue x).cfg = s.cfg := rfl
@[simp] theorem setQueue_pinA (x : List Message) : (s.setQueue x).pinA = s.pinA := rfl
@[simp] theorem setQueue_pinB (x : List Message) : (s.setQueue x).pinB = s.pinB := rfl
@[simp] theorem setQueue_prevPhase (x : List Message) : (s.setQueue x).prevPhase = s.prevPhase := rfl
@[simp] theorem setQueue_acc (x : List Message) : (s.setQueue x).acc = s.acc := rfl
@[simp] theorem setQueue_ctrlValue (x : List Message) : (s.setQueue x).ctrlValue = s.ctrlValue := rfl
@[simp] theorem setQueue_lastEmitted (x : List Message) : (s.setQueue x).lastEmitted = s.lastEmitted := rfl
@[simp] theorem setQueue_dispState (x : List Message) : (s.setQueue x).dispState = s.dispState := rfl
@[simp] theorem setQueue_rem (x : List Message) : (s.setQueue x).rem = s.rem := rfl
@[simp] theorem setQueue_rdir (x : List Message) : (s.setQueue x).rdir = s.rdir := rfl
@[simp] theorem setQueue_pollSlot (x : List Message) : (s.setQueue x).pollSlot = s.pollSlot := rfl
@[simp] theorem setQueue_fault (x : List Message) : (s.setQueue x).fault = s.fault := rfl
@[simp] theorem setQueue_trace (x : List Message) : (s.setQueue x).trace = s.trace := rfl
@[simp] theorem setQueue_queue (x : List Message) : (s.setQueue x).queue = x := rfl
@[simp] theorem setQueue_delivered (x : List Message) : (s.setQueue x).delivered = s.delivered := rfl
@[simp] theorem setQueue_decodeOut (x : List Message) : (s.setQueue x).decodeOut = s.decodeOut := rfl
@[simp] theorem setQueue_program (x : List Message) : (s.setQueue x).program = s.program := rfl
@[simp] theorem setQueue_draws (x : List Message) : (s.setQueue x).draws = s.draws := rfl

@[simp] theorem setDelivered_cfg (x : List Message) : (s.setDelivered x).cfg = s.cfg := rfl
@[simp] theorem setDelivered_pinA (x : List Message) : (s.setDelivered x).pinA = s.pinA := rfl
@[simp] theorem setDelivered_pinB (x : List Message) : (s.setDelivered x).pinB = s.pinB := rfl
@[simp] theorem setDelivered_prevPhase (x : List Message) : (s.setDelivered x).prevPhase = s.prevPhase := rfl
@[simp] theorem setDelivered_acc (x : List Message) : (s.setDelivered x).acc = s.acc := rfl
@[simp] theorem setDelivered_ctrlValue (x : List Message) : (s.setDelivered x).ctrlValue = s.ctrlValue := rfl
@[simp] theorem setDelivered_lastEmitted (x : List Message) : (s.setDelivered x).lastEmitted = s.lastEmitted := rfl
@[simp] theorem setDelivered_dispState (x : List Message) : (s.setDelivered x).dispState = s.dispState := rfl
@[simp] theorem setDelivered_rem (x : List Message) : (s.setDelivered x).rem = s.rem := rfl
@[simp] theorem setDelivered_rdir (x : List Message) : (s.setDelivered x).rdir = s.rdir := rfl
@[simp] theorem setDelivered_pollSlot (x : List Message) : (s.setDelivered x).pollSlot = s.pollSlot := rfl
@[simp] theorem setDelivered_fault (x : List Message) : (s.setDelivered x).fault = s.fault := rfl
@[simp] theorem setDelivered_trace (x : List Message) : (s.setDelivered x).trace = s.trace := rfl
@[simp] theorem setDelivered_queue (x : List Message) : (s.setDelivered x).queue = s.queue := rfl
@[simp] theorem setDelivered_delivered (x : List Message) : (s.setDelivered x).delivered = x := rfl
@[simp] theorem setDelivered_decodeOut (x : List Message) : (s.setDelivered x).decodeOut = s.decodeOut := rfl
@[simp] theorem setDelivered_program (x : List Message) : (s.setDelivered x).program = s.program := rfl
@[simp] theorem setDelivered_draws (x : List Message) : (s.setDelivered x).draws = s.draws := rfl

@[simp] theorem setDecodeOut_cfg (x : DirBits) : (s.setDecodeOut x).cfg = s.cfg := rfl
@[simp] theorem setDecodeOut_pinA (x : DirBits) : (s.setDecodeOut x).pinA = s.pinA := rfl
@[simp] theorem setDecodeOut_pinB (x : DirBits) : (s.setDecodeOut x).pinB = s.pinB := rfl
@[simp] theorem setDecodeOut_prevPhase (x : DirBits) : (s.setDecodeOut x).prevPhase = s.prevPhase := rfl
@[simp] theorem setDecodeOut_acc (x : DirBits) : (s.setDecodeOut x).acc = s.acc := rfl
@[simp] theorem setDecodeOut_ctrlValue (x : DirBits) : (s.setDecodeOut x).ctrlValue = s.ctrlValue := rfl
@[simp] theorem setDecodeOut_lastEmitted (x : DirBits) : (s.setDecodeOut x).lastEmitted = s.lastEmitted := rfl
@[simp] theorem setDecodeOut_dispState (x : DirBits) : (s.setDecodeOut x).dispState = s.dispState := rfl
@[simp] theorem setDecodeOut_rem (x : DirBits) : (s.setDecodeOut x).rem = s.rem := rfl
@[simp] theorem setDecodeOut_rdir (x : DirBits) : (s.setDecodeOut x).rdir = s.rdir := rfl
@[simp] theorem setDecodeOut_pollSlot (x : DirBits) : (s.setDecodeOut x).pollSlot = s.pollSlot := rfl
@[simp] theorem setDecodeOut_fault (x : DirBits) : (s.setDecodeOut x).fault = s.fault := rfl
@[simp] theorem setDecodeOut_trace (x : DirBits) : (s.setDecodeOut x).trace = s.trace := rfl
@[simp] theorem setDecodeOut_queue (x : DirBits) : (s.setDecodeOut x).queue = s.queue := rfl
@[simp] theorem setDecodeOut_delivered (x : DirBits) : (s.setDecodeOut x).delivered = s.delivered := rfl
@[simp] theorem setDecodeOut_decodeOut (x : DirBits) : (s.setDecodeOut x).decodeOut = x := rfl
@[simp] theorem setDecodeOut_program (x : DirBits) : (s.setDecodeOut x).program = s.program := rfl
@[simp] theorem setDecodeOut_draws (x : DirBits) : (s.setDecodeOut x).draws = s.draws := rfl

@[simp] theorem setProgram_cfg (x : List RequestWord) : (s.setProgram x).cfg = s.cfg := rfl
@[simp] theorem setProgram_pinA (x : List RequestWord) : (s.setProgram x).pinA = s.pinA := rfl
@[simp] theorem setProgram_pinB (x : List RequestWord) : (s.setProgram x).pinB = s.pinB := rfl
@[simp] theorem setProgram_prevPhase (x : List RequestWord) : (s.setProgram x).prevPhase = s.prevPhase := rfl
@[simp] theorem setProgram_acc (x : List RequestWord) : (s.setProgram x).acc = s.acc := rfl
@[simp] theorem setProgram_ctrlValue (x : List RequestWord) : (s.setProgram x).ctrlValue = s.ctrlValue := rfl
@[simp] theorem setProgram_lastEmitted (x : List RequestWord) : (s.setProgram x).lastEmitted = s.lastEmitted := rfl
@[simp] theorem setProgram_dispState (x : List RequestWord) : (s.setProgram x).dispState = s.dispState := rfl
@[simp] theorem setProgram_rem (x : List RequestWord) : (s.setProgram x).rem = s.rem := rfl
@[simp] theorem setProgram_rdir (x : List RequestWord) : (s.setProgram x).rdir = s.rdir := rfl
@[simp] theorem setProgram_pollSlot (x : List RequestWord) : (s.setProgram x).pollSlot = s.pollSlot := rfl
@[simp] theorem setProgram_fault (x : List RequestWord) : (s.setProgram x).fault = s.fault := rfl
@[simp] theorem setProgram_trace (x : List RequestWord) : (s.setProgram x).trace = s.trace := rfl
@[simp] theorem setProgram_queue (x : List RequestWord) : (s.setProgram x).queue = s.queue := rfl
@[simp] theorem setProgram_delivered (x : List RequestWord) : (s.setProgram x).delivered = s.delivered := rfl
@[simp] theorem setProgram_decodeOut (x : List RequestWord) : (s.setProgram x).decodeOut = s.decodeOut := rfl
@[simp] theorem setProgram_program (x : List RequestWord) : (s.setProgram x).program = x := rfl
@[simp] theorem setProgram_draws (x : List RequestWord) : (s.setProgram x).draws = s.draws := rfl

@[simp] theorem setDraws_cfg (x : Nat) : (s.setDraws x).cfg = s.cfg := rfl
@[simp] theorem setDraws_pinA (x : Nat) : (s.setDraws x).pinA = s.pinA := rfl
@[simp] theorem setDraws_pinB (x : Nat) : (s.setDraws x).pinB = s.pinB := rfl
@[simp] theorem setDraws_prevPhase (x : Nat) : (s.setDraws x).prevPhase = s.prevPhase := rfl
@[simp] theorem setDraws_acc (x : Nat) : (s.setDraws x).acc = s.acc := rfl
@[simp] theorem setDraws_ctrlValue (x : Nat) : (s.setDraws x).ctrlValue = s.ctrlValue := rfl
@[simp] theorem setDraws_lastEmitted (x : Nat) : (s.setDraws x).lastEmitted = s.lastEmitted := rfl
@[simp] theorem setDraws_dispState (x : Nat) : (s.setDraws x).dispState = s.dispState := rfl
@[simp] theorem setDraws_rem (x : Nat) : (s.setDraws x).rem = s.rem := rfl
@[simp] theorem setDraws_rdir (x : Nat) : (s.setDraws x).rdir = s.rdir := rfl
@[simp] theorem setDraws_pollSlot (x : Nat) : (s.setDraws x).pollSlot = s.pollSlot := rfl
@[simp] theorem setDraws_fault (x : Nat) : (s.setDraws x).fault = s.fault := rfl
@[simp] theorem setDraws_trace (x : Nat) : (s.setDraws x).trace = s.trace := rfl
@[simp] theorem setDraws_queue (x : Nat) : (s.setDraws x).queue = s.queue := rfl
@[simp] theorem setDraws_delivered (x : Nat) : (s.setDraws x).delivered = s.delivered := rfl
@[simp] theorem setDraws_decodeOut (x : Nat) : (s.setDraws x).decodeOut = s.decodeOut := rfl
@[simp] theorem setDraws_program (x : Nat) : (s.setDraws x).program = s.program := rfl
@[simp] theorem setDraws_draws (x : Nat) : (s.setDraws x).draws = x := rfl

/-- Two states with equal fields are equal. -/
@[ext] theorem State.ext {s t : State}
    (h0 : s.cfg = t.cfg)
    (h1 : s.pinA = t.pinA)
    (h2 : s.pinB = t.pinB)
    (h3 : s.prevPhase = t.prevPhase)
    (h4 : s.acc = t.acc)
    (h5 : s.ctrlValue = t.ctrlValue)
    (h6 : s.lastEmitted = t.lastEmitted)
    (h7 : s.dispState = t.dispState)
    (h8 : s.rem = t.rem)
    (h9 : s.rdir = t.rdir)
    (h10 : s.pollSlot = t.pollSlot)
    (h11 : s.fault = t.fault)
    (h12 : s.trace = t.trace)
    (h13 : s.queue = t.queue)
    (h14 : s.delivered = t.delivered)
    (h15 : s.decodeOut = t.decodeOut)
    (h16 : s.program = t.program)
    (h17 : s.draws = t.draws) : s = t := by
  cases s
  cases t
  simp_all

end Sys2Proof.Machine
end

