-- ==== Sys2Proof/Laws/Ops.lean ====
section
/-! SUPPORT. What each shared operation can do, said once: the guards as equivalences, the fields each
update leaves alone, and the answers of the operations that may raise. -/

namespace Sys2Proof.Machine

variable {s t : State} {k : Result} {op : OpName}

/-! ## Ranges -/

theorem legal_iff {cfg : Config} : cfg.legal = true ↔
    cfg.channel ≤ 15 ∧ cfg.cc ≤ 127 ∧ cfg.initValue ≤ 127 ∧ 11 ≤ cfg.accW := by
  simp only [Config.legal, Bool.and_eq_true, decide_eq_true_iff, and_assoc]

theorem fitsAcc_iff {cfg : Config} {x : Int} : fitsAcc cfg x = true ↔
    -(2 ^ (cfg.accW - 1)) ≤ x ∧ x ≤ 2 ^ (cfg.accW - 1) - 1 := by
  unfold fitsAcc
  rw [Bool.and_eq_true, decide_eq_true_iff, decide_eq_true_iff]
  rfl

/-! ## Guards -/

theorem ready_iff : ready s = true ↔ s.cfg.legal = true ∧ s.fault = none := by
  simp [ready]

theorem samplerEnabled_iff : samplerEnabled s = true ↔ ready s = true ∧ samplerSlot s = true := by
  simp [samplerEnabled]

theorem dispatchEnabled_iff :
    dispatchEnabled s = true ↔ ready s = true ∧ s.dispState = .idle ∧ dispatcherSlot s = true := by
  simp [dispatchEnabled, and_assoc]

theorem emitEnabled_iff :
    emitEnabled s = true ↔ ready s = true ∧ s.dispState = .emit ∧ 1 ≤ s.rem := by
  simp [emitEnabled, and_assoc]

theorem flushEnabled_iff : flushEnabled s = true ↔ ready s = true ∧ s.dispState = .flush := by
  simp [flushEnabled]

theorem samplerSlot_iff :
    samplerSlot s = true ↔ s.cfg.sched = .async ∨ s.pollSlot = some .sampler := by
  cases h : s.cfg.sched <;> simp [samplerSlot, h]

theorem dispatcherSlot_iff :
    dispatcherSlot s = true ↔ s.cfg.sched = .async ∨ s.pollSlot = some .dispatcher := by
  cases h : s.cfg.sched <;> simp [dispatcherSlot, h]

theorem inRun_legal (h : s.cfg.legal = true) : inRun s k = k := by simp [inRun, h]

theorem inRun_illegal (h : s.cfg.legal = false) : inRun s k = .refused .badConfig := by simp [inRun, h]

theorem inRun_next (h : inRun s k = .next t) : s.cfg.legal = true ∧ k = .next t := by
  unfold inRun at h
  split at h
  · exact ⟨‹_›, h⟩
  · cases h

theorem agentStep_ready (h : ready s = true) : agentStep s k = k := by
  rw [ready_iff] at h
  simp [agentStep, inRun, h.1, h.2]

theorem agentStep_halted {c : FaultCode} (hl : s.cfg.legal = true) (h : s.fault = some c) :
    agentStep s k = .fault (.halted c) := by
  simp [agentStep, inRun, hl, h]

theorem agentStep_next (h : agentStep s k = .next t) : ready s = true ∧ k = .next t := by
  obtain ⟨hl, h⟩ := inRun_next h
  split at h
  · exact ⟨ready_iff.2 ⟨hl, ‹_›⟩, h⟩
  · cases h

theorem samplerStep_enabled (h : samplerEnabled s = true) : samplerStep op s k = k := by
  rw [samplerEnabled_iff] at h
  simp [samplerStep, agentStep_ready h.1, h.2]

theorem samplerStep_next (h : samplerStep op s k = .next t) : samplerEnabled s = true ∧ k = .next t := by
  obtain ⟨hr, h⟩ := agentStep_next h
  split at h
  · exact ⟨samplerEnabled_iff.2 ⟨hr, ‹_›⟩, h⟩
  · cases h

theorem dispatcherStep_enabled {want : DispState} (hr : ready s = true) (hw : s.dispState = want)
    (hn : want ≠ .reserved) : dispatcherStep op want s k = k := by
  subst hw
  simp [dispatcherStep, agentStep_ready hr, hn]

/-- A Dispatcher operation that answers a next state either raised FSM_ILLEGAL in the reserved control state
or ran in the state that enables it. -/
theorem dispatcherStep_next {want : DispState} (h : dispatcherStep op want s k = .next t) :
    ready s = true ∧
      ((s.dispState = .reserved ∧ t = raise (.fsmIllegal op .dispState 3) s) ∨
        (s.dispState = want ∧ k = .next t)) := by
  obtain ⟨hr, h⟩ := agentStep_next h
  refine ⟨hr, ?_⟩
  split at h
  · rename_i hd
    left
    simp only [hd, dispStateBits] at h
    exact ⟨hd, by cases h; rfl⟩
  · split at h
    · exact .inr ⟨‹_›, h⟩
    · cases h

theorem idleStep_enabled (h : dispatchEnabled s = true) : idleStep op s k = k := by
  rw [dispatchEnabled_iff] at h
  simp [idleStep, dispatcherStep_enabled h.1 h.2.1, h.2.2]

theorem idleStep_next (h : idleStep op s k = .next t) :
    (ready s = true ∧ t = raise (.fsmIllegal op .dispState 3) s) ∨ (dispatchEnabled s = true ∧ k = .next t) := by
  obtain ⟨hr, ⟨-, h⟩ | ⟨hd, h⟩⟩ := dispatcherStep_next h
  · exact .inl ⟨hr, h⟩
  · split at h
    · exact .inr ⟨dispatchEnabled_iff.2 ⟨hr, hd, ‹_›⟩, h⟩
    · cases h

theorem emitStep_enabled {may : Bool} (h : emitEnabled s = true) (hm : may = true) :
    emitStep may s = .next (emitOne s) := by
  obtain ⟨hr, hd, hn⟩ := emitEnabled_iff.1 h
  rw [emitStep, dispatcherStep_enabled hr hd (by decide), if_neg (by omega), if_pos hm]

theorem emitStep_next {may : Bool} (h : emitStep may s = .next t) :
    (ready s = true ∧ t = raise (.fsmIllegal .emit .dispState 3) s) ∨
      (emitEnabled s = true ∧ may = true ∧ t = emitOne s) := by
  obtain ⟨hr, ⟨-, h⟩ | ⟨hd, h⟩⟩ := dispatcherStep_next h
  · exact .inl ⟨hr, h⟩
  · split at h
    · cases h
    · split at h
      · refine .inr ⟨emitEnabled_iff.2 ⟨hr, hd, by omega⟩, ‹_›, ?_⟩
        cases h; rfl
      · cases h

/-! ## Operations that may raise -/

/-- ACCUMULATE either writes the exact sum, which is in range, or reports one of its two faults. -/
theorem accumulate_ok {dir : DirBits} (h : accumulate op dir s = .ok t) :
    fitsAcc s.cfg (s.acc + dirValue dir) = true ∧ t = s.setAcc (s.acc + dirValue dir) := by
  unfold accumulate at h
  split at h
  · cases h
  · split at h
    · exact ⟨‹_›, by cases h; rfl⟩
    · cases h

theorem accumulate_fits {dir : DirBits} (hd : dir ≠ 0b10#2)
    (h : fitsAcc s.cfg (s.acc + dirValue dir) = true) :
    accumulate op dir s = .ok (s.setAcc (s.acc + dirValue dir)) := by
  simp [accumulate, hd, h]

theorem accumulate_overflow {dir : DirBits} (hd : dir ≠ 0b10#2)
    (h : fitsAcc s.cfg (s.acc + dirValue dir) = false) :
    accumulate op dir s = .error (.accOverflow op s.acc (dirValue dir)) := by
  simp [accumulate, hd, h]

theorem raising_next {r : Except FaultInfo State} (h : raising s r = .next t) :
    r = .ok t ∨ ∃ info, r = .error info ∧ t = raise info s := by
  cases r with
  | ok u => exact .inl (by cases h; rfl)
  | error info => exact .inr ⟨info, rfl, by cases h; rfl⟩

/-- A direction is -1, 0 or +1, or the pattern the table never gives (R73). -/
theorem dirValue_cases (d : DirBits) : d = 0b10#2 ∨ dirValue d = 0 ∨ dirValue d = 1 ∨ dirValue d = -1 := by
  revert d; decide

theorem dirValue_natAbs {d : DirBits} (h : d ≠ 0b10#2) : (dirValue d).natAbs ≤ 1 := by
  rcases dirValue_cases d with h' | h' | h' | h' <;> simp_all

/-- The table never gives the reserved pattern (R73, R74). -/
theorem decodeDirection_ne (p c : Phase) : decodeDirection p c ≠ 0b10#2 := by
  revert p c; decide

theorem dirValue_eq_zero {d : DirBits} (h : d = 0b00#2) : dirValue d = 0 := by subst h; decide

/-! ## What the updates leave alone -/

/-- `poll_slot` after a write of `p`: the slot exists only under POLLED (R42). -/
def slotAfter (sched : Sched) (p : PollSlot) (old : Option PollSlot) : Option PollSlot :=
  match sched with
  | .polled => some p
  | .async => old

@[simp] theorem slotAfter_polled (p : PollSlot) (old : Option PollSlot) : slotAfter .polled p old = some p := rfl

@[simp] theorem slotAfter_async (p : PollSlot) (old : Option PollSlot) : slotAfter .async p old = old := rfl

@[simp] theorem slotAfter_slotAfter (sc : Sched) (p q : PollSlot) (old : Option PollSlot) :
    slotAfter sc p (slotAfter sc q old) = slotAfter sc p old := by cases sc <;> rfl

theorem slotAfter_eq_ite (sc : Sched) (p : PollSlot) (old : Option PollSlot) :
    slotAfter sc p old = if sc = .polled then some p else old := by cases sc <;> rfl

theorem passSlot_eq (p : PollSlot) (s : State) :
    passSlot p s = s.setPollSlot (slotAfter s.cfg.sched p s.pollSlot) := by
  unfold passSlot
  cases s.cfg.sched <;> rfl

theorem offer_eq (m : Message) (s : State) :
    offer m s = (s.setQueue (if Config.transportAccepts s.draws then s.queue ++ [m] else s.queue)).setDraws
      (s.draws + 1) := rfl

theorem flushTransport_eq (s : State) :
    flushTransport s = ((s.setTrace (s.trace ++ [.flush])).setDelivered (s.delivered ++ s.queue)).setQueue [] := by
  simp [flushTransport, deliver]

theorem recordEmitted_relative (h : s.cfg.mode = .relative) : recordEmitted s = s := by
  simp [recordEmitted, h]

theorem recordEmitted_absolute (h : s.cfg.mode = .absolute) : recordEmitted s = s.setLastEmitted s.ctrlValue := by
  simp [recordEmitted, h]

theorem countDown_eq (s : State) :
    countDown s = (s.setRem (s.rem - 1)).setDispState (if s.rem - 1 = 0 then .flush else s.dispState) := by
  unfold countDown
  split <;> simp [State.setRem, State.setDispState]

@[simp] theorem raise_cfg (info : FaultInfo) : (raise info s).cfg = s.cfg := rfl
@[simp] theorem raise_pinA (info : FaultInfo) : (raise info s).pinA = s.pinA := rfl
@[simp] theorem raise_pinB (info : FaultInfo) : (raise info s).pinB = s.pinB := rfl
@[simp] theorem raise_prevPhase (info : FaultInfo) : (raise info s).prevPhase = s.prevPhase := rfl
@[simp] theorem raise_acc (info : FaultInfo) : (raise info s).acc = s.acc := rfl
@[simp] theorem raise_ctrlValue (info : FaultInfo) : (raise info s).ctrlValue = s.ctrlValue := rfl
@[simp] theorem raise_lastEmitted (info : FaultInfo) : (raise info s).lastEmitted = s.lastEmitted := rfl
@[simp] theorem raise_dispState (info : FaultInfo) : (raise info s).dispState = s.dispState := rfl
@[simp] theorem raise_rem (info : FaultInfo) : (raise info s).rem = s.rem := rfl
@[simp] theorem raise_rdir (info : FaultInfo) : (raise info s).rdir = s.rdir := rfl
@[simp] theorem raise_pollSlot (info : FaultInfo) : (raise info s).pollSlot = s.pollSlot := rfl
@[simp] theorem raise_queue (info : FaultInfo) : (raise info s).queue = s.queue := rfl
@[simp] theorem raise_delivered (info : FaultInfo) : (raise info s).delivered = s.delivered := rfl
@[simp] theorem raise_decodeOut (info : FaultInfo) : (raise info s).decodeOut = s.decodeOut := rfl
@[simp] theorem raise_program (info : FaultInfo) : (raise info s).program = s.program := rfl
@[simp] theorem raise_draws (info : FaultInfo) : (raise info s).draws = s.draws := rfl

@[simp] theorem passSlot_cfg (p : PollSlot) : (passSlot p s).cfg = s.cfg := by simp [passSlot_eq]
@[simp] theorem passSlot_pinA (p : PollSlot) : (passSlot p s).pinA = s.pinA := by simp [passSlot_eq]
@[simp] theorem passSlot_pinB (p : PollSlot) : (passSlot p s).pinB = s.pinB := by simp [passSlot_eq]
@[simp] theorem passSlot_prevPhase (p : PollSlot) : (passSlot p s).prevPhase = s.prevPhase := by simp [passSlot_eq]
@[simp] theorem passSlot_acc (p : PollSlot) : (passSlot p s).acc = s.acc := by simp [passSlot_eq]
@[simp] theorem passSlot_ctrlValue (p : PollSlot) : (passSlot p s).ctrlValue = s.ctrlValue := by simp [passSlot_eq]
@[simp] theorem passSlot_lastEmitted (p : PollSlot) : (passSlot p s).lastEmitted = s.lastEmitted := by simp [passSlot_eq]
@[simp] theorem passSlot_dispState (p : PollSlot) : (passSlot p s).dispState = s.dispState := by simp [passSlot_eq]
@[simp] theorem passSlot_rem (p : PollSlot) : (passSlot p s).rem = s.rem := by simp [passSlot_eq]
@[simp] theorem passSlot_rdir (p : PollSlot) : (passSlot p s).rdir = s.rdir := by simp [passSlot_eq]
@[simp] theorem passSlot_fault (p : PollSlot) : (passSlot p s).fault = s.fault := by simp [passSlot_eq]
@[simp] theorem passSlot_trace (p : PollSlot) : (passSlot p s).trace = s.trace := by simp [passSlot_eq]
@[simp] theorem passSlot_queue (p : PollSlot) : (passSlot p s).queue = s.queue := by simp [passSlot_eq]
@[simp] theorem passSlot_delivered (p : PollSlot) : (passSlot p s).delivered = s.delivered := by simp [passSlot_eq]
@[simp] theorem passSlot_decodeOut (p : PollSlot) : (passSlot p s).decodeOut = s.decodeOut := by simp [passSlot_eq]
@[simp] theorem passSlot_program (p : PollSlot) : (passSlot p s).program = s.program := by simp [passSlot_eq]
@[simp] theorem passSlot_draws (p : PollSlot) : (passSlot p s).draws = s.draws := by simp [passSlot_eq]

@[simp] theorem offer_cfg (m : Message) : (offer m s).cfg = s.cfg := by simp [offer_eq]
@[simp] theorem offer_pinA (m : Message) : (offer m s).pinA = s.pinA := by simp [offer_eq]
@[simp] theorem offer_pinB (m : Message) : (offer m s).pinB = s.pinB := by simp [offer_eq]
@[simp] theorem offer_prevPhase (m : Message) : (offer m s).prevPhase = s.prevPhase := by simp [offer_eq]
@[simp] theorem offer_acc (m : Message) : (offer m s).acc = s.acc := by simp [offer_eq]
@[simp] theorem offer_ctrlValue (m : Message) : (offer m s).ctrlValue = s.ctrlValue := by simp [offer_eq]
@[simp] theorem offer_lastEmitted (m : Message) : (offer m s).lastEmitted = s.lastEmitted := by simp [offer_eq]
@[simp] theorem offer_dispState (m : Message) : (offer m s).dispState = s.dispState := by simp [offer_eq]
@[simp] theorem offer_rem (m : Message) : (offer m s).rem = s.rem := by simp [offer_eq]
@[simp] theorem offer_rdir (m : Message) : (offer m s).rdir = s.rdir := by simp [offer_eq]
@[simp] theorem offer_pollSlot (m : Message) : (offer m s).pollSlot = s.pollSlot := by simp [offer_eq]
@[simp] theorem offer_fault (m : Message) : (offer m s).fault = s.fault := by simp [offer_eq]
@[simp] theorem offer_trace (m : Message) : (offer m s).trace = s.trace := by simp [offer_eq]
@[simp] theorem offer_delivered (m : Message) : (offer m s).delivered = s.delivered := by simp [offer_eq]
@[simp] theorem offer_decodeOut (m : Message) : (offer m s).decodeOut = s.decodeOut := by simp [offer_eq]
@[simp] theorem offer_program (m : Message) : (offer m s).program = s.program := by simp [offer_eq]

@[simp] theorem emitMessage_cfg (m : Message) : (emitMessage m s).cfg = s.cfg := by simp [emitMessage]
@[simp] theorem emitMessage_pinA (m : Message) : (emitMessage m s).pinA = s.pinA := by simp [emitMessage]
@[simp] theorem emitMessage_pinB (m : Message) : (emitMessage m s).pinB = s.pinB := by simp [emitMessage]
@[simp] theorem emitMessage_prevPhase (m : Message) : (emitMessage m s).prevPhase = s.prevPhase := by simp [emitMessage]
@[simp] theorem emitMessage_acc (m : Message) : (emitMessage m s).acc = s.acc := by simp [emitMessage]
@[simp] theorem emitMessage_ctrlValue (m : Message) : (emitMessage m s).ctrlValue = s.ctrlValue := by simp [emitMessage]
@[simp] theorem emitMessage_lastEmitted (m : Message) : (emitMessage m s).lastEmitted = s.lastEmitted := by simp [emitMessage]
@[simp] theorem emitMessage_dispState (m : Message) : (emitMessage m s).dispState = s.dispState := by simp [emitMessage]
@[simp] theorem emitMessage_rem (m : Message) : (emitMessage m s).rem = s.rem := by simp [emitMessage]
@[simp] theorem emitMessage_rdir (m : Message) : (emitMessage m s).rdir = s.rdir := by simp [emitMessage]
@[simp] theorem emitMessage_pollSlot (m : Message) : (emitMessage m s).pollSlot = s.pollSlot := by simp [emitMessage]
@[simp] theorem emitMessage_fault (m : Message) : (emitMessage m s).fault = s.fault := by simp [emitMessage]
@[simp] theorem emitMessage_delivered (m : Message) : (emitMessage m s).delivered = s.delivered := by simp [emitMessage]
@[simp] theorem emitMessage_decodeOut (m : Message) : (emitMessage m s).decodeOut = s.decodeOut := by simp [emitMessage]
@[simp] theorem emitMessage_program (m : Message) : (emitMessage m s).program = s.program := by simp [emitMessage]

@[simp] theorem deliver_cfg (n : Nat) : (deliver n s).cfg = s.cfg := rfl
@[simp] theorem deliver_pinA (n : Nat) : (deliver n s).pinA = s.pinA := rfl
@[simp] theorem deliver_pinB (n : Nat) : (deliver n s).pinB = s.pinB := rfl
@[simp] theorem deliver_prevPhase (n : Nat) : (deliver n s).prevPhase = s.prevPhase := rfl
@[simp] theorem deliver_acc (n : Nat) : (deliver n s).acc = s.acc := rfl
@[simp] theorem deliver_ctrlValue (n : Nat) : (deliver n s).ctrlValue = s.ctrlValue := rfl
@[simp] theorem deliver_lastEmitted (n : Nat) : (deliver n s).lastEmitted = s.lastEmitted := rfl
@[simp] theorem deliver_dispState (n : Nat) : (deliver n s).dispState = s.dispState := rfl
@[simp] theorem deliver_rem (n : Nat) : (deliver n s).rem = s.rem := rfl
@[simp] theorem deliver_rdir (n : Nat) : (deliver n s).rdir = s.rdir := rfl
@[simp] theorem deliver_pollSlot (n : Nat) : (deliver n s).pollSlot = s.pollSlot := rfl
@[simp] theorem deliver_fault (n : Nat) : (deliver n s).fault = s.fault := rfl
@[simp] theorem deliver_trace (n : Nat) : (deliver n s).trace = s.trace := rfl
@[simp] theorem deliver_decodeOut (n : Nat) : (deliver n s).decodeOut = s.decodeOut := rfl
@[simp] theorem deliver_program (n : Nat) : (deliver n s).program = s.program := rfl
@[simp] theorem deliver_draws (n : Nat) : (deliver n s).draws = s.draws := rfl

@[simp] theorem flushTransport_cfg : (flushTransport s).cfg = s.cfg := by simp [flushTransport_eq]
@[simp] theorem flushTransport_pinA : (flushTransport s).pinA = s.pinA := by simp [flushTransport_eq]
@[simp] theorem flushTransport_pinB : (flushTransport s).pinB = s.pinB := by simp [flushTransport_eq]
@[simp] theorem flushTransport_prevPhase : (flushTransport s).prevPhase = s.prevPhase := by simp [flushTransport_eq]
@[simp] theorem flushTransport_acc : (flushTransport s).acc = s.acc := by simp [flushTransport_eq]
@[simp] theorem flushTransport_ctrlValue : (flushTransport s).ctrlValue = s.ctrlValue := by simp [flushTransport_eq]
@[simp] theorem flushTransport_lastEmitted : (flushTransport s).lastEmitted = s.lastEmitted := by simp [flushTransport_eq]
@[simp] theorem flushTransport_dispState : (flushTransport s).dispState = s.dispState := by simp [flushTransport_eq]
@[simp] theorem flushTransport_rem : (flushTransport s).rem = s.rem := by simp [flushTransport_eq]
@[simp] theorem flushTransport_rdir : (flushTransport s).rdir = s.rdir := by simp [flushTransport_eq]
@[simp] theorem flushTransport_pollSlot : (flushTransport s).pollSlot = s.pollSlot := by simp [flushTransport_eq]
@[simp] theorem flushTransport_fault : (flushTransport s).fault = s.fault := by simp [flushTransport_eq]
@[simp] theorem flushTransport_decodeOut : (flushTransport s).decodeOut = s.decodeOut := by simp [flushTransport_eq]
@[simp] theorem flushTransport_program : (flushTransport s).program = s.program := by simp [flushTransport_eq]

@[simp] theorem recordEmitted_cfg : (recordEmitted s).cfg = s.cfg := by
  cases h : s.cfg.mode <;> simp [recordEmitted, h]
@[simp] theorem recordEmitted_pinA : (recordEmitted s).pinA = s.pinA := by
  cases h : s.cfg.mode <;> simp [recordEmitted, h]
@[simp] theorem recordEmitted_pinB : (recordEmitted s).pinB = s.pinB := by
  cases h : s.cfg.mode <;> simp [recordEmitted, h]
@[simp] theorem recordEmitted_prevPhase : (recordEmitted s).prevPhase = s.prevPhase := by
  cases h : s.cfg.mode <;> simp [recordEmitted, h]
@[simp] theorem recordEmitted_acc : (recordEmitted s).acc = s.acc := by
  cases h : s.cfg.mode <;> simp [recordEmitted, h]
@[simp] theorem recordEmitted_ctrlValue : (recordEmitted s).ctrlValue = s.ctrlValue := by
  cases h : s.cfg.mode <;> simp [recordEmitted, h]
@[simp] theorem recordEmitted_dispState : (recordEmitted s).dispState = s.dispState := by
  cases h : s.cfg.mode <;> simp [recordEmitted, h]
@[simp] theorem recordEmitted_rem : (recordEmitted s).rem = s.rem := by
  cases h : s.cfg.mode <;> simp [recordEmitted, h]
@[simp] theorem recordEmitted_rdir : (recordEmitted s).rdir = s.rdir := by
  cases h : s.cfg.mode <;> simp [recordEmitted, h]
@[simp] theorem recordEmitted_pollSlot : (recordEmitted s).pollSlot = s.pollSlot := by
  cases h : s.cfg.mode <;> simp [recordEmitted, h]
@[simp] theorem recordEmitted_fault : (recordEmitted s).fault = s.fault := by
  cases h : s.cfg.mode <;> simp [recordEmitted, h]
@[simp] theorem recordEmitted_trace : (recordEmitted s).trace = s.trace := by
  cases h : s.cfg.mode <;> simp [recordEmitted, h]
@[simp] theorem recordEmitted_queue : (recordEmitted s).queue = s.queue := by
  cases h : s.cfg.mode <;> simp [recordEmitted, h]
@[simp] theorem recordEmitted_delivered : (recordEmitted s).delivered = s.delivered := by
  cases h : s.cfg.mode <;> simp [recordEmitted, h]
@[simp] theorem recordEmitted_decodeOut : (recordEmitted s).decodeOut = s.decodeOut := by
  cases h : s.cfg.mode <;> simp [recordEmitted, h]
@[simp] theorem recordEmitted_program : (recordEmitted s).program = s.program := by
  cases h : s.cfg.mode <;> simp [recordEmitted, h]
@[simp] theorem recordEmitted_draws : (recordEmitted s).draws = s.draws := by
  cases h : s.cfg.mode <;> simp [recordEmitted, h]

@[simp] theorem countDown_cfg : (countDown s).cfg = s.cfg := by simp [countDown_eq]
@[simp] theorem countDown_pinA : (countDown s).pinA = s.pinA := by simp [countDown_eq]
@[simp] theorem countDown_pinB : (countDown s).pinB = s.pinB := by simp [countDown_eq]
@[simp] theorem countDown_prevPhase : (countDown s).prevPhase = s.prevPhase := by simp [countDown_eq]
@[simp] theorem countDown_acc : (countDown s).acc = s.acc := by simp [countDown_eq]
@[simp] theorem countDown_ctrlValue : (countDown s).ctrlValue = s.ctrlValue := by simp [countDown_eq]
@[simp] theorem countDown_lastEmitted : (countDown s).lastEmitted = s.lastEmitted := by simp [countDown_eq]
@[simp] theorem countDown_rdir : (countDown s).rdir = s.rdir := by simp [countDown_eq]
@[simp] theorem countDown_pollSlot : (countDown s).pollSlot = s.pollSlot := by simp [countDown_eq]
@[simp] theorem countDown_fault : (countDown s).fault = s.fault := by simp [countDown_eq]
@[simp] theorem countDown_trace : (countDown s).trace = s.trace := by simp [countDown_eq]
@[simp] theorem countDown_queue : (countDown s).queue = s.queue := by simp [countDown_eq]
@[simp] theorem countDown_delivered : (countDown s).delivered = s.delivered := by simp [countDown_eq]
@[simp] theorem countDown_decodeOut : (countDown s).decodeOut = s.decodeOut := by simp [countDown_eq]
@[simp] theorem countDown_program : (countDown s).program = s.program := by simp [countDown_eq]
@[simp] theorem countDown_draws : (countDown s).draws = s.draws := by simp [countDown_eq]

@[simp] theorem emitOne_cfg : (emitOne s).cfg = s.cfg := by simp [emitOne]
@[simp] theorem emitOne_pinA : (emitOne s).pinA = s.pinA := by simp [emitOne]
@[simp] theorem emitOne_pinB : (emitOne s).pinB = s.pinB := by simp [emitOne]
@[simp] theorem emitOne_prevPhase : (emitOne s).prevPhase = s.prevPhase := by simp [emitOne]
@[simp] theorem emitOne_acc : (emitOne s).acc = s.acc := by simp [emitOne]
@[simp] theorem emitOne_ctrlValue : (emitOne s).ctrlValue = s.ctrlValue := by simp [emitOne]
@[simp] theorem emitOne_rdir : (emitOne s).rdir = s.rdir := by simp [emitOne]
@[simp] theorem emitOne_pollSlot : (emitOne s).pollSlot = s.pollSlot := by simp [emitOne]
@[simp] theorem emitOne_fault : (emitOne s).fault = s.fault := by simp [emitOne]
@[simp] theorem emitOne_delivered : (emitOne s).delivered = s.delivered := by simp [emitOne]
@[simp] theorem emitOne_decodeOut : (emitOne s).decodeOut = s.decodeOut := by simp [emitOne]
@[simp] theorem emitOne_program : (emitOne s).program = s.program := by simp [emitOne]

@[simp] theorem flushCycle_cfg : (flushCycle s).cfg = s.cfg := by simp [flushCycle]
@[simp] theorem flushCycle_pinA : (flushCycle s).pinA = s.pinA := by simp [flushCycle]
@[simp] theorem flushCycle_pinB : (flushCycle s).pinB = s.pinB := by simp [flushCycle]
@[simp] theorem flushCycle_prevPhase : (flushCycle s).prevPhase = s.prevPhase := by simp [flushCycle]
@[simp] theorem flushCycle_acc : (flushCycle s).acc = s.acc := by simp [flushCycle]
@[simp] theorem flushCycle_ctrlValue : (flushCycle s).ctrlValue = s.ctrlValue := by simp [flushCycle]
@[simp] theorem flushCycle_lastEmitted : (flushCycle s).lastEmitted = s.lastEmitted := by simp [flushCycle]
@[simp] theorem flushCycle_rem : (flushCycle s).rem = s.rem := by simp [flushCycle]
@[simp] theorem flushCycle_rdir : (flushCycle s).rdir = s.rdir := by simp [flushCycle]
@[simp] theorem flushCycle_fault : (flushCycle s).fault = s.fault := by simp [flushCycle]
@[simp] theorem flushCycle_decodeOut : (flushCycle s).decodeOut = s.decodeOut := by simp [flushCycle]
@[simp] theorem flushCycle_program : (flushCycle s).program = s.program := by simp [flushCycle]

@[simp] theorem drainReport_cfg : (drainReport s).cfg = s.cfg := by simp [drainReport, reportDrain, drainAcc]
@[simp] theorem drainReport_pinA : (drainReport s).pinA = s.pinA := by simp [drainReport, reportDrain, drainAcc]
@[simp] theorem drainReport_pinB : (drainReport s).pinB = s.pinB := by simp [drainReport, reportDrain, drainAcc]
@[simp] theorem drainReport_prevPhase : (drainReport s).prevPhase = s.prevPhase := by simp [drainReport, reportDrain, drainAcc]
@[simp] theorem drainReport_ctrlValue : (drainReport s).ctrlValue = s.ctrlValue := by simp [drainReport, reportDrain, drainAcc]
@[simp] theorem drainReport_lastEmitted : (drainReport s).lastEmitted = s.lastEmitted := by simp [drainReport, reportDrain, drainAcc]
@[simp] theorem drainReport_dispState : (drainReport s).dispState = s.dispState := by simp [drainReport, reportDrain, drainAcc]
@[simp] theorem drainReport_rem : (drainReport s).rem = s.rem := by simp [drainReport, reportDrain, drainAcc]
@[simp] theorem drainReport_rdir : (drainReport s).rdir = s.rdir := by simp [drainReport, reportDrain, drainAcc]
@[simp] theorem drainReport_fault : (drainReport s).fault = s.fault := by simp [drainReport, reportDrain, drainAcc]
@[simp] theorem drainReport_queue : (drainReport s).queue = s.queue := by simp [drainReport, reportDrain, drainAcc]
@[simp] theorem drainReport_delivered : (drainReport s).delivered = s.delivered := by simp [drainReport, reportDrain, drainAcc]
@[simp] theorem drainReport_decodeOut : (drainReport s).decodeOut = s.decodeOut := by simp [drainReport, reportDrain, drainAcc]
@[simp] theorem drainReport_program : (drainReport s).program = s.program := by simp [drainReport, reportDrain, drainAcc]
@[simp] theorem drainReport_draws : (drainReport s).draws = s.draws := by simp [drainReport, reportDrain, drainAcc]

@[simp] theorem resetBlock_cfg : (resetBlock s).cfg = s.cfg := by simp [resetBlock]
@[simp] theorem resetBlock_pinA : (resetBlock s).pinA = s.pinA := by simp [resetBlock]
@[simp] theorem resetBlock_pinB : (resetBlock s).pinB = s.pinB := by simp [resetBlock]
@[simp] theorem resetBlock_fault : (resetBlock s).fault = s.fault := by simp [resetBlock]
@[simp] theorem resetBlock_trace : (resetBlock s).trace = s.trace := by simp [resetBlock]
@[simp] theorem resetBlock_queue : (resetBlock s).queue = s.queue := by simp [resetBlock]
@[simp] theorem resetBlock_delivered : (resetBlock s).delivered = s.delivered := by simp [resetBlock]
@[simp] theorem resetBlock_decodeOut : (resetBlock s).decodeOut = s.decodeOut := by simp [resetBlock]
@[simp] theorem resetBlock_program : (resetBlock s).program = s.program := by simp [resetBlock]
@[simp] theorem resetBlock_draws : (resetBlock s).draws = s.draws := by simp [resetBlock]

/-! What the updates write. -/

@[simp] theorem raise_fault (info : FaultInfo) : (raise info s).fault = some info.code := rfl
@[simp] theorem raise_trace (info : FaultInfo) : (raise info s).trace = s.trace ++ [.fault info] := rfl

@[simp] theorem passSlot_pollSlot (p : PollSlot) : (passSlot p s).pollSlot = slotAfter s.cfg.sched p s.pollSlot := by
  simp [passSlot_eq]

@[simp] theorem emitMessage_trace (m : Message) : (emitMessage m s).trace = s.trace ++ [.emit m] := by
  simp [emitMessage]
@[simp] theorem emitMessage_draws (m : Message) : (emitMessage m s).draws = s.draws + 1 := by
  simp [emitMessage, offer_eq]
@[simp] theorem emitMessage_queue (m : Message) : (emitMessage m s).queue =
    if Config.transportAccepts s.draws then s.queue ++ [m] else s.queue := rfl

@[simp] theorem countDown_rem : (countDown s).rem = s.rem - 1 := by simp [countDown_eq]
@[simp] theorem countDown_dispState :
    (countDown s).dispState = if s.rem - 1 = 0 then .flush else s.dispState := by simp [countDown_eq]

@[simp] theorem emitOne_rem : (emitOne s).rem = s.rem - 1 := by simp [emitOne]
@[simp] theorem emitOne_dispState : (emitOne s).dispState = if s.rem - 1 = 0 then .flush else s.dispState := by
  unfold emitOne
  rw [countDown_dispState]
  by_cases h : s.rem - 1 = 0 <;> simp [h]
@[simp] theorem emitOne_trace :
    (emitOne s).trace = s.trace ++ [.emit (buildMessage s.cfg (messageValue s))] := by simp [emitOne]
@[simp] theorem emitOne_draws : (emitOne s).draws = s.draws + 1 := by simp [emitOne]
@[simp] theorem emitOne_queue : (emitOne s).queue = if Config.transportAccepts s.draws then
    s.queue ++ [buildMessage s.cfg (messageValue s)] else s.queue := by simp [emitOne]
theorem emitOne_lastEmitted_relative (h : s.cfg.mode = .relative) : (emitOne s).lastEmitted = s.lastEmitted := by
  simp [emitOne, recordEmitted, h]
theorem emitOne_lastEmitted_absolute (h : s.cfg.mode = .absolute) : (emitOne s).lastEmitted = s.ctrlValue := by
  simp [emitOne, recordEmitted, h]

@[simp] theorem flushTransport_trace : (flushTransport s).trace = s.trace ++ [.flush] := by
  simp [flushTransport_eq]
@[simp] theorem flushTransport_draws : (flushTransport s).draws = s.draws := by simp [flushTransport_eq]
@[simp] theorem flushTransport_queue : (flushTransport s).queue = [] := by simp [flushTransport_eq]
@[simp] theorem flushTransport_delivered : (flushTransport s).delivered = s.delivered ++ s.queue := by
  simp [flushTransport_eq]
/-- A flush moves every queued message to the host, in order (R35, R200). -/
theorem flushTransport_messages (s : State) :
    (flushTransport s).delivered ++ (flushTransport s).queue = s.delivered ++ s.queue := by
  simp

@[simp] theorem flushCycle_dispState : (flushCycle s).dispState = .idle := by simp [flushCycle]
@[simp] theorem flushCycle_trace : (flushCycle s).trace = s.trace ++ [.flush] := by simp [flushCycle]
@[simp] theorem flushCycle_draws : (flushCycle s).draws = s.draws := by simp [flushCycle]
@[simp] theorem flushCycle_queue : (flushCycle s).queue = [] := by simp [flushCycle]
@[simp] theorem flushCycle_delivered : (flushCycle s).delivered = s.delivered ++ s.queue := by
  simp [flushCycle]
@[simp] theorem flushCycle_pollSlot :
    (flushCycle s).pollSlot = slotAfter s.cfg.sched .sampler s.pollSlot := by simp [flushCycle]
theorem flushCycle_messages (s : State) :
    (flushCycle s).delivered ++ (flushCycle s).queue = s.delivered ++ s.queue := by
  simp

@[simp] theorem drainReport_acc : (drainReport s).acc = 0 := by simp [drainReport, reportDrain, drainAcc]
@[simp] theorem drainReport_trace : (drainReport s).trace = s.trace ++ [.drainResult s.acc] := by
  simp [drainReport, reportDrain, drainAcc]
@[simp] theorem drainReport_pollSlot :
    (drainReport s).pollSlot = slotAfter s.cfg.sched .sampler s.pollSlot := by
  simp [drainReport, reportDrain, drainAcc]

@[simp] theorem resetBlock_prevPhase : (resetBlock s).prevPhase = phaseOf s.pinA s.pinB := by simp [resetBlock]
@[simp] theorem resetBlock_acc : (resetBlock s).acc = 0 := by simp [resetBlock]
@[simp] theorem resetBlock_ctrlValue : (resetBlock s).ctrlValue = seedValue s := by simp [resetBlock]
@[simp] theorem resetBlock_lastEmitted : (resetBlock s).lastEmitted = seedValue s := by simp [resetBlock]
@[simp] theorem resetBlock_dispState : (resetBlock s).dispState = .idle := by simp [resetBlock]
@[simp] theorem resetBlock_rem : (resetBlock s).rem = 0 := by simp [resetBlock]
@[simp] theorem resetBlock_rdir : (resetBlock s).rdir = 0#1 := by simp [resetBlock]
@[simp] theorem resetBlock_pollSlot :
    (resetBlock s).pollSlot = slotAfter s.cfg.sched .sampler s.pollSlot := by simp [resetBlock]

theorem transportTurn_cases (s : State) :
    transportTurn s = s ∨
      (s.fault = none ∧ transportTurn s = (deliver (Config.earlyDeliveries s.draws) s).setDraws (s.draws + 1)) := by
  unfold transportTurn
  split
  · exact .inl rfl
  · exact .inr ⟨‹_›, rfl⟩

@[simp] theorem transportTurn_cfg : (transportTurn s).cfg = s.cfg := by
  rcases transportTurn_cases s with h | ⟨-, h⟩ <;> simp [h]
@[simp] theorem transportTurn_pinA : (transportTurn s).pinA = s.pinA := by
  rcases transportTurn_cases s with h | ⟨-, h⟩ <;> simp [h]
@[simp] theorem transportTurn_pinB : (transportTurn s).pinB = s.pinB := by
  rcases transportTurn_cases s with h | ⟨-, h⟩ <;> simp [h]
@[simp] theorem transportTurn_prevPhase : (transportTurn s).prevPhase = s.prevPhase := by
  rcases transportTurn_cases s with h | ⟨-, h⟩ <;> simp [h]
@[simp] theorem transportTurn_acc : (transportTurn s).acc = s.acc := by
  rcases transportTurn_cases s with h | ⟨-, h⟩ <;> simp [h]
@[simp] theorem transportTurn_ctrlValue : (transportTurn s).ctrlValue = s.ctrlValue := by
  rcases transportTurn_cases s with h | ⟨-, h⟩ <;> simp [h]
@[simp] theorem transportTurn_lastEmitted : (transportTurn s).lastEmitted = s.lastEmitted := by
  rcases transportTurn_cases s with h | ⟨-, h⟩ <;> simp [h]
@[simp] theorem transportTurn_dispState : (transportTurn s).dispState = s.dispState := by
  rcases transportTurn_cases s with h | ⟨-, h⟩ <;> simp [h]
@[simp] theorem transportTurn_rem : (transportTurn s).rem = s.rem := by
  rcases transportTurn_cases s with h | ⟨-, h⟩ <;> simp [h]
@[simp] theorem transportTurn_rdir : (transportTurn s).rdir = s.rdir := by
  rcases transportTurn_cases s with h | ⟨-, h⟩ <;> simp [h]
@[simp] theorem transportTurn_pollSlot : (transportTurn s).pollSlot = s.pollSlot := by
  rcases transportTurn_cases s with h | ⟨-, h⟩ <;> simp [h]
@[simp] theorem transportTurn_fault : (transportTurn s).fault = s.fault := by
  rcases transportTurn_cases s with h | ⟨-, h⟩ <;> simp [h]
@[simp] theorem transportTurn_trace : (transportTurn s).trace = s.trace := by
  rcases transportTurn_cases s with h | ⟨-, h⟩ <;> simp [h]
@[simp] theorem transportTurn_decodeOut : (transportTurn s).decodeOut = s.decodeOut := by
  rcases transportTurn_cases s with h | ⟨-, h⟩ <;> simp [h]
@[simp] theorem transportTurn_program : (transportTurn s).program = s.program := by
  rcases transportTurn_cases s with h | ⟨-, h⟩ <;> simp [h]

/-- The Transport's turn moves messages from its queue to the host, in order (R200). -/
theorem transportTurn_messages (s : State) :
    (transportTurn s).delivered ++ (transportTurn s).queue = s.delivered ++ s.queue := by
  rcases transportTurn_cases s with h | ⟨-, h⟩ <;> simp [h, deliver]

/-- The four ways a DISPATCH can go (R157). -/
theorem dispatchCycle_cases (s : State) :
    (s.acc = 0 ∧ dispatchCycle s = passSlot .sampler (s.setAcc 0)) ∨
    (s.acc ≠ 0 ∧ s.cfg.mode = .relative ∧ dispatchCycle s =
      schedule s.acc.natAbs ((s.setAcc 0).setRdir (if s.acc < 0 then 1#1 else 0#1))) ∨
    (s.acc ≠ 0 ∧ s.cfg.mode = .absolute ∧ clampedValue s.ctrlValue s.acc = s.lastEmitted ∧ dispatchCycle s =
      passSlot .sampler ((s.setAcc 0).setCtrlValue (clampedValue s.ctrlValue s.acc))) ∨
    (s.acc ≠ 0 ∧ s.cfg.mode = .absolute ∧ clampedValue s.ctrlValue s.acc ≠ s.lastEmitted ∧ dispatchCycle s =
      schedule 1 ((s.setAcc 0).setCtrlValue (clampedValue s.ctrlValue s.acc))) := by
  by_cases h0 : s.acc = 0
  · exact .inl ⟨h0, by simp [dispatchCycle, drainAcc, h0]⟩
  · cases hm : s.cfg.mode with
    | relative => exact .inr (.inl ⟨h0, rfl, by
      simp only [dispatchCycle, drainAcc, h0, if_false, hm]; rfl⟩)
    | absolute =>
      by_cases hv : clampedValue s.ctrlValue s.acc = s.lastEmitted
      · exact .inr (.inr (.inl ⟨h0, rfl, hv, by simp [dispatchCycle, drainAcc, h0, hm, dispatchAbsolute, hv]⟩))
      · exact .inr (.inr (.inr ⟨h0, rfl, hv, by simp [dispatchCycle, drainAcc, h0, hm, dispatchAbsolute, hv]⟩))

@[simp] theorem dispatchCycle_cfg : (dispatchCycle s).cfg = s.cfg := by
  rcases dispatchCycle_cases s with ⟨-, h⟩ | ⟨-, -, h⟩ | ⟨-, -, -, h⟩ | ⟨-, -, -, h⟩ <;> simp [h, schedule]
@[simp] theorem dispatchCycle_pinA : (dispatchCycle s).pinA = s.pinA := by
  rcases dispatchCycle_cases s with ⟨-, h⟩ | ⟨-, -, h⟩ | ⟨-, -, -, h⟩ | ⟨-, -, -, h⟩ <;> simp [h, schedule]
@[simp] theorem dispatchCycle_pinB : (dispatchCycle s).pinB = s.pinB := by
  rcases dispatchCycle_cases s with ⟨-, h⟩ | ⟨-, -, h⟩ | ⟨-, -, -, h⟩ | ⟨-, -, -, h⟩ <;> simp [h, schedule]
@[simp] theorem dispatchCycle_prevPhase : (dispatchCycle s).prevPhase = s.prevPhase := by
  rcases dispatchCycle_cases s with ⟨-, h⟩ | ⟨-, -, h⟩ | ⟨-, -, -, h⟩ | ⟨-, -, -, h⟩ <;> simp [h, schedule]
@[simp] theorem dispatchCycle_lastEmitted : (dispatchCycle s).lastEmitted = s.lastEmitted := by
  rcases dispatchCycle_cases s with ⟨-, h⟩ | ⟨-, -, h⟩ | ⟨-, -, -, h⟩ | ⟨-, -, -, h⟩ <;> simp [h, schedule]
@[simp] theorem dispatchCycle_fault : (dispatchCycle s).fault = s.fault := by
  rcases dispatchCycle_cases s with ⟨-, h⟩ | ⟨-, -, h⟩ | ⟨-, -, -, h⟩ | ⟨-, -, -, h⟩ <;> simp [h, schedule]
@[simp] theorem dispatchCycle_trace : (dispatchCycle s).trace = s.trace := by
  rcases dispatchCycle_cases s with ⟨-, h⟩ | ⟨-, -, h⟩ | ⟨-, -, -, h⟩ | ⟨-, -, -, h⟩ <;> simp [h, schedule]
@[simp] theorem dispatchCycle_queue : (dispatchCycle s).queue = s.queue := by
  rcases dispatchCycle_cases s with ⟨-, h⟩ | ⟨-, -, h⟩ | ⟨-, -, -, h⟩ | ⟨-, -, -, h⟩ <;> simp [h, schedule]
@[simp] theorem dispatchCycle_delivered : (dispatchCycle s).delivered = s.delivered := by
  rcases dispatchCycle_cases s with ⟨-, h⟩ | ⟨-, -, h⟩ | ⟨-, -, -, h⟩ | ⟨-, -, -, h⟩ <;> simp [h, schedule]
@[simp] theorem dispatchCycle_decodeOut : (dispatchCycle s).decodeOut = s.decodeOut := by
  rcases dispatchCycle_cases s with ⟨-, h⟩ | ⟨-, -, h⟩ | ⟨-, -, -, h⟩ | ⟨-, -, -, h⟩ <;> simp [h, schedule]
@[simp] theorem dispatchCycle_program : (dispatchCycle s).program = s.program := by
  rcases dispatchCycle_cases s with ⟨-, h⟩ | ⟨-, -, h⟩ | ⟨-, -, -, h⟩ | ⟨-, -, -, h⟩ <;> simp [h, schedule]
@[simp] theorem dispatchCycle_draws : (dispatchCycle s).draws = s.draws := by
  rcases dispatchCycle_cases s with ⟨-, h⟩ | ⟨-, -, h⟩ | ⟨-, -, -, h⟩ | ⟨-, -, -, h⟩ <;> simp [h, schedule]


@[simp] theorem dispatchCycle_acc : (dispatchCycle s).acc = 0 := by
  rcases dispatchCycle_cases s with ⟨-, h⟩ | ⟨-, -, h⟩ | ⟨-, -, -, h⟩ | ⟨-, -, -, h⟩ <;> simp [h, schedule]

end Sys2Proof.Machine
end

