-- ==== Sys2Proof/Laws/Exec.lean ====
section
/-! SUPPORT. What an instruction can do when it answers a next state, said once (`exec_effect`), and what a
step can do (`step_effect`). Invariants are derived from these. -/

namespace Sys2Proof.Machine

/-- Every way an instruction reaches a next state, with the guard it passed. -/
inductive Effect (s : State) : State → Prop where
  | decoded (d : DirBits) : Effect s (s.setDecodeOut d)
  | raised (info : FaultInfo) (hr : ready s = true) : Effect s (raise info s)
  | pinned (a b : BitVec 1) (hr : ready s = true) : Effect s (setPins a b s)
  | ticked (d : Int) (p : Phase) (h : samplerEnabled s = true) (hd : d.natAbs ≤ 1)
      (hx : d = 0 ∨ fitsAcc s.cfg (s.acc + d) = true) :
      Effect s (passSlot .dispatcher ((s.setAcc (s.acc + d)).setPrevPhase p))
  | drained (h : dispatchEnabled s = true) : Effect s (drainReport s)
  | dispatched (h : dispatchEnabled s = true) : Effect s (dispatchCycle s)
  | emitted (h : emitEnabled s = true) : Effect s (emitOne s)
  | flushed (h : flushEnabled s = true) : Effect s (flushCycle s)
  | wasReset (hr : ready s = true) : Effect s (resetBlock s)

variable {s t : State}

theorem decodeStep_effect {p c : Phase} (h : decodeStep p c s = .next t) : Effect s t := by
  obtain ⟨-, h⟩ := inRun_next h
  cases h
  exact .decoded _

theorem accStep_effect {d : DirBits} (h : accStep d s = .next t) : Effect s t := by
  obtain ⟨he, h⟩ := samplerStep_next h
  obtain h | ⟨info, -, rfl⟩ := raising_next h
  · cases ha : accumulate .acc d s with
    | error e => rw [ha] at h; cases h
    | ok u =>
      rw [ha] at h
      have hd : d ≠ 0b10#2 := by rintro rfl; simp [accumulate] at ha
      obtain ⟨hf, rfl⟩ := accumulate_ok ha
      cases h
      exact .ticked (dirValue d) s.prevPhase he (dirValue_natAbs hd) (.inr hf)
  · exact .raised info (samplerEnabled_iff.1 he).1

theorem sampleTick_ok {d : DirBits} {u : State} (h : sampleTick d s = .ok u) :
    u = s.setAcc (s.acc + dirValue d) ∧ (dirValue d = 0 ∨ fitsAcc s.cfg (s.acc + dirValue d) = true) := by
  unfold sampleTick at h
  split at h
  · rename_i h0
    cases h
    simp [dirValue_eq_zero h0, State.setAcc]
  · obtain ⟨hf, rfl⟩ := accumulate_ok h
    exact ⟨rfl, .inr hf⟩

theorem execSample_effect (h : execSample s = .next t) : Effect s t := by
  obtain ⟨he, h⟩ := samplerStep_next h
  obtain h | ⟨info, -, rfl⟩ := raising_next h
  · cases ha : sampleTick (decodeDirection s.prevPhase (phaseOf s.pinA s.pinB)) s with
    | error e => simp only [sampleOnce, ha] at h; cases h
    | ok u =>
      simp only [sampleOnce, ha] at h
      obtain ⟨rfl, hf⟩ := sampleTick_ok ha
      cases h
      exact .ticked _ _ he (dirValue_natAbs (decodeDirection_ne _ _)) hf
  · exact .raised info (samplerEnabled_iff.1 he).1

theorem emitStep_effect {may : Bool} (h : emitStep may s = .next t) : Effect s t := by
  obtain ⟨hr, rfl⟩ | ⟨he, -, rfl⟩ := emitStep_next h
  · exact .raised _ hr
  · exact .emitted he

/-- An instruction that answers a next state did one of the nine things of `Effect`. -/
theorem exec_effect {i : Instr} (h : exec i s = .next t) : Effect s t := by
  cases i with
  | pins a b =>
    obtain ⟨hr, h⟩ := agentStep_next h
    cases h
    exact .pinned a b hr
  | sample => exact execSample_effect h
  | accPlus => exact accStep_effect h
  | accMinus => exact accStep_effect h
  | accZero => exact accStep_effect h
  | drain =>
    obtain ⟨hr, rfl⟩ | ⟨he, h⟩ := idleStep_next h
    · exact .raised _ hr
    · cases h; exact .drained he
  | dispatch =>
    obtain ⟨hr, rfl⟩ | ⟨he, h⟩ := idleStep_next h
    · exact .raised _ hr
    · cases h; exact .dispatched he
  | emit => exact emitStep_effect h
  | msgRelPlus c n => exact emitStep_effect h
  | msgRelMinus c n => exact emitStep_effect h
  | msgAbs c n v => exact emitStep_effect h
  | flush =>
    obtain ⟨hr, ⟨-, rfl⟩ | ⟨hd, h⟩⟩ := dispatcherStep_next h
    · exact .raised _ hr
    · cases h; exact .flushed (flushEnabled_iff.2 ⟨hr, hd⟩)
  | reset =>
    obtain ⟨hr, h⟩ := agentStep_next h
    cases h
    exact .wasReset hr
  | _ => exact decodeStep_effect h

/-- The states a step starts its operation from: only the model's own fields differ from `s`. -/
def Prepared (s s₀ : State) : Prop := ∃ p n, s₀ = (s.setProgram p).setDraws n

/-- A drawn word either leaves the state alone or performs an operation of an agent that does not wait (R187). -/
theorem performDrawn_cases (waiting : Option Agent) (w : Byte) (s : State) :
    performDrawn waiting w s = s ∨
      ∃ i, decodeStim w = .ok i ∧ agentOf i ≠ waiting ∧ exec i s = .next (performDrawn waiting w s) := by
  cases hw : decodeStim w with
  | error e => exact .inl (by simp [performDrawn, hw])
  | ok i =>
    by_cases ha : agentOf i = waiting
    · exact .inl (by simp [performDrawn, hw, ha])
    · cases he : exec i s with
      | next t => exact .inr ⟨i, rfl, ha, by simp [performDrawn, hw, ha, he, stateAfter]⟩
      | fault f => exact .inl (by simp [performDrawn, hw, ha, he, stateAfter])
      | refused x => exact .inl (by simp [performDrawn, hw, ha, he, stateAfter])

/-- A drawn operation takes one free value and performs at most one effect. -/
theorem drawnOperation_effect (waiting : Option Agent) (s : State) :
    drawnOperation waiting s = s.setDraws (s.draws + 1) ∨
      Effect (s.setDraws (s.draws + 1)) (drawnOperation waiting s) :=
  (performDrawn_cases waiting _ _).imp id fun ⟨_, _, _, he⟩ => exec_effect he

theorem notEnabled_iff {f : Fault} : notEnabled f = true ↔ ∀ c, f ≠ .halted c := by
  cases f <;> simp [notEnabled]

/-- A request reaches a next state by its operation, or by waiting while the others may step. -/
theorem requestOutcome_next {i : Instr} {r : Result} (h : requestOutcome i s r = .next t) :
    (∃ u, r = .next u ∧ t = transportTurn u) ∨ t = transportTurn (drawnOperation (agentOf i) s) := by
  cases r with
  | next u => cases h; exact .inl ⟨u, rfl, rfl⟩
  | fault f =>
    cases hn : notEnabled f with
    | true => exact .inr (by simpa [requestOutcome, hn, waitingStep] using h.symm)
    | false => simp [requestOutcome, hn] at h
  | refused x => cases h

/-- A drawn operation starts from a prepared state. -/
theorem drawnOperation_prepared (waiting : Option Agent) (s : State) :
    ∃ s₀ u, Prepared s s₀ ∧ (u = s₀ ∨ Effect s₀ u) ∧
      transportTurn (drawnOperation waiting s) = transportTurn u :=
  ⟨_, _, ⟨s.program, s.draws + 1, rfl⟩, drawnOperation_effect waiting s, rfl⟩

/-- A step that answers a next state performed at most one effect, and then the Transport had its turn. -/
theorem step_effect (h : step s = .next t) :
    ∃ s₀ u, Prepared s s₀ ∧ (u = s₀ ∨ Effect s₀ u) ∧ t = transportTurn u := by
  obtain ⟨-, h⟩ := inRun_next (show runStep s = .next t from h)
  split at h
  · cases h
  · split at h
    · unfold freeStep at h
      split at h
      · cases h
      · cases h
        exact drawnOperation_prepared none s
    · rename_i r rest _
      unfold requestStep at h
      split at h
      · obtain ⟨u, he, rfl⟩ | rfl := requestOutcome_next h
        · exact ⟨_, u, ⟨rest, s.draws, rfl⟩, .inr (exec_effect he), rfl⟩
        · exact drawnOperation_prepared _ s
      · cases h

end Sys2Proof.Machine
end

