-- ==== Sys2Proof/Laws/PerInstr.lean ====
section
/-! SUPPORT. Per instruction: the word of a well-formed instruction lies in its row of
`spec/opcode_table.json`, by the row's own match and mask (30_encoding.md R91). -/

namespace Sys2Proof.Laws.EncodesItsRow

/-- The mask column of the instruction's row. -/
def rowMask : Instr → RequestWord
  | .msgRelPlus _ _ | .msgRelMinus _ _ => .midi 0xFFF080FF#32
  | .msgAbs _ _ _ => .midi 0xFFF08080#32
  | .pins _ _ => .stim 0xFC#8
  | .sample | .accPlus | .accMinus | .accZero | .drain | .dispatch | .emit | .flush | .reset => .stim 0xFF#8
  | _ => .transition 0xF#4

/-- The match column of the instruction's row. -/
def rowMatch : Instr → RequestWord
  | .t0000 => .transition 0x0#4
  | .t0001 => .transition 0x1#4
  | .t0010 => .transition 0x2#4
  | .t0011 => .transition 0x3#4
  | .t0100 => .transition 0x4#4
  | .t0101 => .transition 0x5#4
  | .t0110 => .transition 0x6#4
  | .t0111 => .transition 0x7#4
  | .t1000 => .transition 0x8#4
  | .t1001 => .transition 0x9#4
  | .t1010 => .transition 0xA#4
  | .t1011 => .transition 0xB#4
  | .t1100 => .transition 0xC#4
  | .t1101 => .transition 0xD#4
  | .t1110 => .transition 0xE#4
  | .t1111 => .transition 0xF#4
  | .msgRelPlus _ _ => .midi 0x0BB00001#32
  | .msgRelMinus _ _ => .midi 0x0BB0007F#32
  | .msgAbs _ _ _ => .midi 0x0BB00000#32
  | .pins _ _ => .stim 0x10#8
  | .sample => .stim 0x20#8
  | .accPlus => .stim 0x31#8
  | .accMinus => .stim 0x3F#8
  | .accZero => .stim 0x30#8
  | .drain => .stim 0x40#8
  | .dispatch => .stim 0x50#8
  | .emit => .stim 0x60#8
  | .flush => .stim 0x70#8
  | .reset => .stim 0xF0#8

/-- A word lies in a row: same format, and equal to the match under the mask. -/
def inRow : RequestWord → RequestWord → RequestWord → Prop
  | .stim w, .stim mask, .stim val => w &&& mask = val
  | .transition w, .transition mask, .transition val => w &&& mask = val
  | .midi w, .midi mask, .midi val => w &&& mask = val
  | _, _, _ => False

/-- The word of a well-formed instruction lies in the instruction's row. -/
def Statement (i : Instr) : Prop := i.wf = true → inRow (encode i) (rowMask i) (rowMatch i)

/-- Bit 7 of a data byte is 0 (R76). -/
theorem dataByte_msb {b : Byte} (h : dataByteOk b = true) : b[7] = false := by
  revert b; decide

/-- Which bits of a packed message are which bits of its bytes (R10). -/
theorem messageWord_getLsbD (c : BitVec 4) (n v : Byte) (i : Nat) : (messageWord c n v).getLsbD i =
    if i < 8 then v.getLsbD i else if i < 16 then n.getLsbD (i - 8) else if i < 20 then c.getLsbD (i - 16)
    else (0x0BB#12).getLsbD (i - 20) := by
  have hk : ∀ k, (0x0BB#12).getLsbD k = if k < 4 then (0xB#4).getLsbD k else (0x0B#8).getLsbD (k - 4) := by
    intro k
    rw [show 0x0BB#12 = (0x0B#8 ++ 0xB#4 : BitVec 12) from rfl, BitVec.getLsbD_append]
  simp only [messageWord, packMessage, rowMessage, statusByte, BitVec.getLsbD_append, hk]
  repeat' split
  all_goals first | omega | rfl

theorem t0000 : Statement .t0000 := fun _ => rfl
theorem t0001 : Statement .t0001 := fun _ => rfl
theorem t0010 : Statement .t0010 := fun _ => rfl
theorem t0011 : Statement .t0011 := fun _ => rfl
theorem t0100 : Statement .t0100 := fun _ => rfl
theorem t0101 : Statement .t0101 := fun _ => rfl
theorem t0110 : Statement .t0110 := fun _ => rfl
theorem t0111 : Statement .t0111 := fun _ => rfl
theorem t1000 : Statement .t1000 := fun _ => rfl
theorem t1001 : Statement .t1001 := fun _ => rfl
theorem t1010 : Statement .t1010 := fun _ => rfl
theorem t1011 : Statement .t1011 := fun _ => rfl
theorem t1100 : Statement .t1100 := fun _ => rfl
theorem t1101 : Statement .t1101 := fun _ => rfl
theorem t1110 : Statement .t1110 := fun _ => rfl
theorem t1111 : Statement .t1111 := fun _ => rfl

theorem msgRelPlus (c : BitVec 4) (n : Byte) : Statement (.msgRelPlus c n) := by
  intro hw
  have h := dataByte_msb hw
  show messageWord c n 0x01#8 &&& 0xFFF080FF#32 = 0x0BB00001#32
  refine BitVec.eq_of_getLsbD_eq fun i hi => ?_
  rw [BitVec.getLsbD_and, messageWord_getLsbD]
  interval_cases i <;> simp [*]

theorem msgRelMinus (c : BitVec 4) (n : Byte) : Statement (.msgRelMinus c n) := by
  intro hw
  have h := dataByte_msb hw
  show messageWord c n 0x7F#8 &&& 0xFFF080FF#32 = 0x0BB0007F#32
  refine BitVec.eq_of_getLsbD_eq fun i hi => ?_
  rw [BitVec.getLsbD_and, messageWord_getLsbD]
  interval_cases i <;> simp [*]

theorem msgAbs (c : BitVec 4) (n v : Byte) : Statement (.msgAbs c n v) := by
  intro hw
  obtain ⟨hn, hv⟩ := Bool.and_eq_true_iff.1 hw
  have h := dataByte_msb hn
  have h' := dataByte_msb hv
  show messageWord c n v &&& 0xFFF08080#32 = 0x0BB00000#32
  refine BitVec.eq_of_getLsbD_eq fun i hi => ?_
  rw [BitVec.getLsbD_and, messageWord_getLsbD]
  interval_cases i <;> simp [*]

theorem pins (a b : BitVec 1) : Statement (.pins a b) := by
  intro _
  show (0b000100#6 ++ a ++ b) &&& 0xFC#8 = 0x10#8
  revert a b; decide

theorem sample : Statement .sample := fun _ => rfl
theorem accPlus : Statement .accPlus := fun _ => rfl
theorem accMinus : Statement .accMinus := fun _ => rfl
theorem accZero : Statement .accZero := fun _ => rfl
theorem drain : Statement .drain := fun _ => rfl
theorem dispatch : Statement .dispatch := fun _ => rfl
theorem emit : Statement .emit := fun _ => rfl
theorem flush : Statement .flush := fun _ => rfl
theorem reset : Statement .reset := fun _ => rfl

end Sys2Proof.Laws.EncodesItsRow
end

