-- ==== Sys2Proof/Tests/Slice0.lean ====
section
/-! SUPPORT. The model's own tests. Expected values are taken from 95_test_vectors.md (ids V-…), from the
examples of the rules, or from the encodings of 30_encoding.md. Witnesses show, for every statement with
hypotheses, a state and operands that meet them all. -/

namespace Sys2Proof.Tests.Slice0

open Sys2Proof.Machine Sys2Proof.Safety

/-! ## Helpers -/

/-- The configuration of 95_test_vectors.md's defaults. -/
def cfgOf (mode : Mode) (sched : Sched) : Config := { mode := mode, sched := sched, channel := 0, cc := 0x10 }

/-- The launch state of 95_test_vectors.md's defaults, pins 00. -/
def base (mode : Mode) (sched : Sched) : State := State.launch (cfgOf mode sched) 0#1 0#1

/-- One field of the next state, where there is one. -/
def after {α : Type} (f : State → α) (r : Result) : Option α :=
  match r with
  | .next t => some (f t)
  | .fault _ => none
  | .refused _ => none

/-- The stop an operation answers, where it stops. -/
def stopOf (r : Result) : Option Fault :=
  match r with
  | .next _ => none
  | .fault f => some f
  | .refused _ => none

/-- The refusal an operation answers, where it refuses. -/
def refusedBy (r : Result) : Option Refusal :=
  match r with
  | .next _ => none
  | .fault _ => none
  | .refused x => some x

/-- A state about to emit: EMIT with messages left. -/
def emitting (mode : Mode) (sched : Sched) (rem : Nat) (rdir : BitVec 1) : State :=
  (((base mode sched).setDispState .emit).setRem rem).setRdir rdir

/-- A state about to flush, whose last event is the cycle's emit. -/
def flushing (mode : Mode) (sched : Sched) : State :=
  ((base mode sched).setDispState .flush).setTrace [.emit ⟨0x0B#8, 0xB0#8, 0x10#8, 0x01#8⟩]

/-- The middle of a dispatch cycle, pins 11, with every register away from its reset value. -/
def midCycle : State :=
  ((((emitting .relative .polled 3 1#1).setPinA 1#1).setPinB 1#1).setAcc 9).setCtrlValue 5#7

/-- The Dispatcher's turn under POLLED. -/
def dispatchTurn (mode : Mode) : State := (base mode .polled).setPollSlot (some .dispatcher)

/-! ## Well-formedness: every check refuses an ill-formed term -/

theorem test_wf_msgRelPlus_cc : (Instr.msgRelPlus 0#4 0x80#8).wf = false := by decide
theorem test_wf_msgRelMinus_cc : (Instr.msgRelMinus 0#4 0xFF#8).wf = false := by decide
theorem test_wf_msgAbs_cc : (Instr.msgAbs 0#4 0x80#8 0x00#8).wf = false := by decide
theorem test_wf_msgAbs_value : (Instr.msgAbs 0#4 0x7F#8 0x80#8).wf = false := by decide
/-- V-STIM, config refusals: CFG_CHANNEL = 16, CFG_CC = 128, CFG_INIT_VALUE = 200, ACC_W = 10. -/
theorem test_config_refusals :
    ({ cfgOf .relative .async with channel := 16 } : Config).legal = false ∧
    ({ cfgOf .relative .async with cc := 128 } : Config).legal = false ∧
    ({ cfgOf .relative .async with initValue := 200 } : Config).legal = false ∧
    ({ cfgOf .relative .async with accW := 10 } : Config).legal = false ∧
    ({ cfgOf .relative .async with channel := 15, cc := 127, initValue := 127, accW := 11 } : Config).legal = true := by
  decide

/-! ## Decoding: every constructor by a word of the spec's encoding -/

/-- R71, R74: the 16 codes, previous PhaseState in bits 3:2. -/
theorem test_decode_transitions :
    [0b0000#4, 0b0001#4, 0b0010#4, 0b0011#4, 0b0100#4, 0b0101#4, 0b0110#4, 0b0111#4].map decodeTransition =
      [.t0000, .t0001, .t0010, .t0011, .t0100, .t0101, .t0110, .t0111] ∧
    [0b1000#4, 0b1001#4, 0b1010#4, 0b1011#4, 0b1100#4, 0b1101#4, 0b1110#4, 0b1111#4].map decodeTransition =
      [.t1000, .t1001, .t1010, .t1011, .t1100, .t1101, .t1110, .t1111] := by decide

/-- V-STIM and V-DEC-16: the legal stimulus words. -/
theorem test_decode_stimuli :
    decodeTableWord 8 0x10 = some (.pins 0#1 0#1) ∧ decodeTableWord 8 0x11 = some (.pins 0#1 1#1) ∧
    decodeTableWord 8 0x12 = some (.pins 1#1 0#1) ∧ decodeTableWord 8 0x13 = some (.pins 1#1 1#1) ∧
    decodeTableWord 8 0x20 = some .sample ∧ decodeTableWord 8 0x30 = some .accZero ∧
    decodeTableWord 8 0x31 = some .accPlus ∧ decodeTableWord 8 0x3F = some .accMinus ∧
    decodeTableWord 8 0x40 = some .drain ∧ decodeTableWord 8 0x50 = some .dispatch ∧
    decodeTableWord 8 0x60 = some .emit ∧ decodeTableWord 8 0x70 = some .flush ∧
    decodeTableWord 8 0xF0 = some .reset := by decide

/-- V-SRC-8 and V-FSM-4: message words. -/
theorem test_decode_messages :
    decodeTableWord 32 0x0BB01001 = some (.msgRelPlus 0x0#4 0x10#8) ∧
    decodeTableWord 32 0x0BBF077F = some (.msgRelMinus 0xF#4 0x07#8) ∧
    decodeTableWord 32 0x0BB90064 = some (.msgAbs 0x9#4 0x00#8 0x64#8) ∧
    decodeTableWord 32 0x0BB08001 = none ∧ decodeTableWord 32 0x0AB01001 = none := by decide

/-- R91: the same word is a relative row under RELATIVE and the absolute row under ABSOLUTE. -/
theorem test_decode_mode_decides :
    decodeMidi .relative 0x0BB00001#32 = .ok (.msgRelPlus 0#4 0#8) ∧
    decodeMidi .absolute 0x0BB00001#32 = .ok (.msgAbs 0#4 0#8 0x01#8) ∧
    decodeMidi .relative 0x0BB00002#32 = .error .otherPolicy := by
  refine ⟨rfl, rfl, rfl⟩

/-- V-STIM: reserved words. -/
theorem test_decode_reserved : ∀ w ∈ [0x00#8, 0x0F#8, 0x14#8, 0x1F#8, 0x21#8, 0x2F#8, 0x32#8, 0x3E#8, 0x41#8,
    0x5F#8, 0x61#8, 0x77#8, 0x80#8, 0xEF#8, 0xF1#8, 0xFF#8], (decodeStim w).toOption = none := by decide

/-! ## DECODE, PINS, SAMPLE -/

/-- R100 example: DECODE(1, 3), code 0111, gives +1. -/
theorem test_t0111 : after State.decodeOut (exec .t0111 State.reset) = some 0b01#2 := by decide
/-- V-DEC-11: code 1011 gives -1. -/
theorem test_t1011 : after State.decodeOut (exec .t1011 State.reset) = some 0b11#2 := by decide
/-- R101: DECODE does not touch the registers, even when a fault is recorded. -/
theorem test_decode_pure :
    after State.acc (exec .t0001 ((base .relative .async).setFault (some .accOverflow))) = some 0 := by decide
/-- R106 example: PINS 10. -/
theorem test_pins : after (fun t => (t.pinA, t.pinB, t.prevPhase)) (exec (.pins 1#1 0#1) State.reset) =
    some (1#1, 0#1, 0#2) := by decide
/-- R102 example: prev 0, pins 01, acc 5 gives prev 1, acc 6. -/
theorem test_sample : after (fun t => (t.prevPhase, t.acc))
    (exec .sample (((base .relative .async).setPinB 1#1).setAcc 5)) = some (1#2, 6) := by decide
/-- V-DEC-9: a faulting SAMPLE leaves prev_phase. -/
theorem test_sample_overflow : after (fun t => (t.prevPhase, t.acc, t.fault, t.trace))
    (exec .sample (((base .relative .async).setPinB 1#1).setAcc 32767)) =
    some (0#2, 32767, some .accOverflow, [.fault (.accOverflow .sample 32767 1)]) := by decide

/-! ## ACC and DRAIN -/

/-- V-ACC-2. -/
theorem test_accPlus : after State.acc (exec .accPlus ((base .relative .async).setAcc (-1))) = some 0 := by decide
/-- V-ACC-4. -/
theorem test_accPlus_overflow : after (fun t => (t.acc, t.fault))
    (exec .accPlus ((base .relative .async).setAcc 32767)) = some (32767, some .accOverflow) := by decide
/-- V-ACC-6. -/
theorem test_accMinus : after State.acc (exec .accMinus ((base .relative .async).setAcc 32767)) = some 32766 := by
  decide
/-- V-ACC-5. -/
theorem test_accMinus_overflow : after (fun t => (t.acc, t.fault))
    (exec .accMinus ((base .relative .async).setAcc (-32768))) = some (-32768, some .accOverflow) := by decide
/-- V-ACC-3. -/
theorem test_accZero : after State.acc (exec .accZero ((base .relative .async).setAcc 5)) = some 5 := by decide
/-- V-ACC-10: 1023 is the greatest value in the least width. -/
theorem test_accPlus_narrow : after State.fault (exec .accPlus
    (((base .relative .async).setCfg { cfgOf .relative .async with accW := 11 }).setAcc 1023)) =
    some (some .accOverflow) := by decide
/-- V-ACC-9. -/
theorem test_drain : after (fun t => (t.acc, t.trace)) (exec .drain ((base .relative .async).setAcc (-32768))) =
    some (0, [.drainResult (-32768)]) := by decide
/-- V-ACC-11. -/
theorem test_drain_stuck : stopOf (exec .drain (emitting .relative .async 1 0#1)) =
    some (.stuckDispState .drain) := by decide

/-! ## DISPATCH, EMIT, FLUSH, the message rows, RESET -/

/-- R141 example, and V-REL-6's delta. -/
theorem test_dispatch_relative :
    after (fun t => (t.acc, t.rem, t.rdir, t.dispState)) (exec .dispatch ((base .relative .async).setAcc (-2))) =
      some (0, 2, 1#1, .emit) ∧
    after (fun t => (t.rem, t.rdir)) (exec .dispatch ((base .relative .async).setAcc (-32768))) =
      some (32768, 1#1) := by decide
/-- V-ABS-1, V-ABS-5's floor, and V-ABS-9: the sum is not limited before the clamp. -/
theorem test_dispatch_absolute :
    after (fun t => (t.ctrlValue, t.rem, t.dispState)) (exec .dispatch ((base .absolute .async).setAcc 70)) =
      some (127#7, 1, .emit) ∧
    after (fun t => (t.ctrlValue, t.rem, t.dispState))
      (exec .dispatch ((((base .absolute .async).setCtrlValue 0#7).setLastEmitted 0#7).setAcc (-1))) =
      some (0#7, 0, .idle) ∧
    after State.ctrlValue (exec .dispatch ((base .absolute .async).setAcc (-32768))) = some 0#7 := by decide
/-- R145 example. -/
theorem test_emit : after (fun t => (t.trace, t.rem, t.dispState)) (exec .emit (emitting .relative .async 2 1#1)) =
    some ([.emit ⟨0x0B#8, 0xB0#8, 0x10#8, 0x7F#8⟩], 1, .emit) := by decide
/-- V-FSM-4: channel 9, CC 0, an absolute value of 100. -/
theorem test_emit_absolute : after (fun t => (t.trace, t.lastEmitted, t.dispState))
    (exec .emit (((emitting .absolute .async 1 0#1).setCfg
      { cfgOf .absolute .async with channel := 9, cc := 0 }).setCtrlValue 100#7)) =
    some ([.emit ⟨0x0B#8, 0xB9#8, 0x00#8, 0x64#8⟩], 100#7, .flush) := by decide
/-- V-FSM-1. -/
theorem test_emit_stuck : stopOf (exec .emit State.reset) = some (.stuckDispState .emit) ∧
    stopOf (exec .flush State.reset) = some (.stuckDispState .flush) := by decide
/-- R146 example; under POLLED the slot returns to the Sampler. -/
theorem test_flush : after (fun t => (t.dispState, t.trace.length, t.pollSlot))
    (exec .flush ((flushing .relative .polled).setPollSlot (some .dispatcher))) =
    some (.idle, 2, some .sampler) := by decide
/-- V-FSM-4: channel 15, CC 127, relative +1. -/
theorem test_msgRelPlus : after State.trace (exec (.msgRelPlus 0xF#4 0x7F#8)
    ((emitting .relative .async 1 0#1).setCfg { cfgOf .relative .async with channel := 15, cc := 127 })) =
    some [.emit ⟨0x0B#8, 0xBF#8, 0x7F#8, 0x01#8⟩] := by decide
/-- V-SRC-8: user channel 16, CC 0x07, relative -1. -/
theorem test_msgRelMinus : after State.trace (exec (.msgRelMinus 0xF#4 0x07#8)
    ((emitting .relative .async 1 1#1).setCfg { cfgOf .relative .async with channel := 15, cc := 7 })) =
    some [.emit ⟨0x0B#8, 0xBF#8, 0x07#8, 0x7F#8⟩] := by decide
/-- V-ABS-4's message. -/
theorem test_msgAbs : after State.trace (exec (.msgAbs 0x0#4 0x10#8 0x00#8)
    ((emitting .absolute .async 1 0#1).setCtrlValue 0#7)) =
    some [.emit ⟨0x0B#8, 0xB0#8, 0x10#8, 0x00#8⟩] := by decide
/-- R148: a message row naming another channel has no step. -/
theorem test_msgRelPlus_other : stopOf (exec (.msgRelPlus 0x1#4 0x10#8) (emitting .relative .async 1 0#1)) =
    some .stuckMessage := by decide
/-- V-FSM-3: the reserved control state. -/
theorem test_reserved_state : after (fun t => (t.fault, t.trace))
    (exec .dispatch ((base .relative .async).setDispState .reserved)) =
    some (some .fsmIllegal, [.fault (.fsmIllegal .dispatch .dispState 3)]) := by decide
/-- V-RST-1: pins 11 and CFG_INIT_VALUE = 64, from the middle of a cycle (R213). -/
theorem test_reset :
    after (fun t => (t.prevPhase, t.acc, t.ctrlValue, t.dispState)) (exec .reset midCycle) =
      some (3#2, 0, 64#7, .idle) ∧
    after (fun t => (t.rem, t.rdir, t.pollSlot, t.trace)) (exec .reset midCycle) =
      some (0, 0#1, some .sampler, []) := by decide
/-- V-RST-4: RESET does not clear a fault. -/
theorem test_reset_halted : stopOf (exec .reset ((base .relative .async).setFault (some .accOverflow))) =
    some (.halted .accOverflow) := by decide
/-- R197: a second SAMPLE before the dispatch cycle has no step under POLLED. -/
theorem test_polled_second_sample : stopOf (exec .sample (dispatchTurn .relative)) =
    some (.stuckPollSlot .sample) := by decide
/-- R192(e): a reserved word anywhere refuses the run before its first step. -/
theorem test_refusal_first : refusedBy (step ((base .relative .async).setProgram [.stim 0x20#8, .stim 0x21#8])) =
    some .reservedStimulus := by decide
/-- R187, V-FSM-1: the step of a program stuck at EMIT goes on. -/
theorem test_stuck_waits : ∃ t, step (State.reset.withFetchWord 8 0x60) = .next t := ⟨_, rfl⟩
/-- R187, R197: out of its slot DISPATCH waits; once the Sampler has stepped it is enabled. -/
theorem test_stuck_not_final :
    after State.pollSlot (exec .dispatch (performDrawn (some .dispatcher) 0x20#8 (base .relative .polled))) =
      some (some .sampler) := by decide
/-- R35, D14: a flush delivers every queued message. -/
theorem test_flush_delivers : after (fun t => (t.delivered, t.queue)) (exec .flush
    ((flushing .relative .async).setQueue [⟨0x0B#8, 0xB0#8, 0x10#8, 0x01#8⟩])) =
    some ([⟨0x0B#8, 0xB0#8, 0x10#8, 0x01#8⟩], []) := by decide
/-- The word loaded after reset runs: ACC -1, word 0x3F. -/
theorem test_step_loaded : after (fun t => (t.acc, t.program)) (step (State.reset.withFetchWord 8 0x3F)) =
    some (-1, []) := by decide
/-- R88's examples: PINS 01 is 0x11, ACC -1 is 0x3F, RESET is 0xF0; comments, labels and R89's CYCLE 2. -/
theorem test_assemble :
    assemble [['P', 'I', 'N', 'S', ' ', '0', '1'], ['A', 'C', 'C', ' ', '-', '1', ' ', ';', ' ', 'x'],
      ['g', 'o', ':', ' ', 'R', 'E', 'S', 'E', 'T'], ['C', 'Y', 'C', 'L', 'E', ' ', '2']] =
      some [0x11#8, 0x3F#8, 0xF0#8, 0x50#8, 0x60#8, 0x60#8, 0x70#8] ∧
    assemble [['P', 'I', 'N', 'S', ' ', '2', '1']] = none := by decide

/-! ## Witnesses: for each statement with hypotheses, a state and operands that meet them, clause by clause -/

theorem witness_DecodeOfEncode :
    (Instr.msgRelPlus 0xF#4 0x7F#8).wf = true ∧ (Instr.msgRelPlus 0xF#4 0x7F#8).appliesUnder .relative = true ∧
    (Instr.msgAbs 0x0#4 0x7F#8 0x7F#8).wf = true ∧ (Instr.msgAbs 0x0#4 0x7F#8 0x7F#8).appliesUnder .absolute = true ∧
    Instr.reset.wf = true ∧ Instr.reset.appliesUnder .absolute = true := by decide

theorem witness_EncodeOfDecode :
    decodeRequest .absolute (.stim 0x3F#8) = .ok .accMinus ∧
    decodeRequest .absolute (.transition 0xF#4) = .ok .t1111 ∧
    decodeRequest .relative (.midi 0x0BBF7F7F#32) = .ok (.msgRelMinus 0xF#4 0x7F#8) ∧
    decodeRequest .absolute (.midi 0x0BBF7F7F#32) = .ok (.msgAbs 0xF#4 0x7F#8 0x7F#8) := by
  refine ⟨rfl, rfl, rfl, rfl⟩

/-- A program whose second word is the word `op arg`, followed by another reserved word. -/
def withReserved (op arg : BitVec 4) : State :=
  (base .relative .async).setProgram ([.stim 0x20#8] ++ .stim (op ++ arg) :: [.stim 0x00#8])

/-- The words are, clause by clause, 0x0F, 0x80, 0xEF, 0x14, 0x32 and 0x21. -/
theorem witness_ReservedStimulusRefused :
    (∀ op arg, (withReserved op arg).cfg.legal = true ∧
      (withReserved op arg).program = [.stim 0x20#8] ++ .stim (op ++ arg) :: [.stim 0x00#8]) ∧
    (∀ r ∈ [RequestWord.stim 0x20#8], ∃ i, decodeRequest .relative r = .ok i) ∧
    ((0x0#4 : BitVec 4) = 0x0#4 ∧ (0x8#4 ≤ 0x8#4 ∧ 0x8#4 ≤ 0xE#4) ∧ (0x8#4 ≤ 0xE#4 ∧ 0xE#4 ≤ 0xE#4) ∧
      (0x4#4).extractLsb' 2 2 ≠ 0b00#2 ∧ (0x2#4 ≠ 0b0000#4 ∧ 0x2#4 ≠ 0b0001#4 ∧ 0x2#4 ≠ 0b1111#4) ∧
      (0x2#4 ≠ 0x1#4 ∧ 0x2#4 ≠ 0x3#4 ∧ 0x1#4 ≠ 0b0000#4)) := by
  refine ⟨fun _ _ => ⟨rfl, rfl⟩, ?_, by decide⟩
  intro r hr
  obtain rfl := List.mem_singleton.1 hr
  exact ⟨.sample, rfl⟩

theorem witness_IllegalConfigRefused :
    15 < ((base .relative .async).setCfg { cfgOf .relative .async with channel := 16 }).cfg.channel ∧
    127 < ((base .relative .async).setCfg { cfgOf .relative .async with cc := 128 }).cfg.cc ∧
    127 < ((base .relative .async).setCfg { cfgOf .relative .async with initValue := 128 }).cfg.initValue ∧
    ((base .relative .async).setCfg { cfgOf .relative .async with accW := 10 }).cfg.accW < 11 := by decide

theorem witness_StepRunsDecodedRequest :
    let s := (base .relative .async).setProgram [.stim 0x3F#8, .transition 0x7#4]
    s.cfg.legal = true ∧ noRefusal s ∧ s.program = .stim 0x3F#8 :: [.transition 0x7#4] ∧
      decodeRequest s.cfg.mode (.stim 0x3F#8) = .ok .accMinus := by
  refine ⟨by decide, rfl, rfl, rfl⟩

theorem witness_LoadedWordRuns :
    State.reset.cfg.legal = true ∧ decodeTableWord 8 0x07 = some .t0111 ∧ decodeTableWord 8 0xF0 = some .reset ∧
      decodeTableWord 32 0x0BB91005 = some (.msgAbs 0x9#4 0x10#8 0x05#8) := by decide

/-- A stuck Dispatcher request, then a stuck Sampler request, each with another word after it. -/
theorem witness_StuckRequestWaits :
    (let s := (base .relative .async).setProgram [.stim 0x60#8, .stim 0x20#8];
      s.cfg.legal = true ∧ noRefusal s ∧ decodeRequest s.cfg.mode (.stim 0x60#8) = .ok .emit ∧
      exec .emit (s.setProgram [.stim 0x20#8]) = .fault (.stuckDispState .emit) ∧
      agentOf .emit = some .dispatcher) ∧
    (let s := (dispatchTurn .relative).setProgram [.stim 0x20#8, .stim 0x50#8];
      s.cfg.legal = true ∧ noRefusal s ∧ decodeRequest s.cfg.mode (.stim 0x20#8) = .ok .sample ∧
      exec .sample (s.setProgram [.stim 0x50#8]) = .fault (.stuckPollSlot .sample) ∧
      agentOf .sample = some .sampler) :=
  ⟨⟨by decide, rfl, rfl, rfl, rfl⟩, ⟨by decide, rfl, rfl, rfl, rfl⟩⟩

/-- The Sampler's slot, a tick pending at the pins. -/
theorem witness_StuckIsNotFinal :
    (let s := ((base .relative .polled).setPinB 1#1).setAcc 32766;
      s.cfg.legal = true ∧ s.fault = none ∧ s.cfg.sched = .polled ∧ s.dispState = .idle ∧
      s.pollSlot = some .sampler ∧ fitsAcc s.cfg (s.acc + tickOf s.prevPhase (s.pinA ++ s.pinB)) = true) ∧
    decodeStim 0x60#8 = .ok .emit ∧ agentOf .emit = some .dispatcher := by
  refine ⟨by decide, rfl, rfl⟩

theorem witness_FreeRunIsNeverStuck :
    State.reset.cfg.legal = true ∧ State.reset.program = [] ∧ State.reset.fault = none ∧
      (State.reset.setFault (some .fsmIllegal)).fault = some .fsmIllegal := by decide

theorem witness_ConfigurationNeverChanges : ∃ t, step (State.reset.withFetchWord 8 0xF0) = .next t := ⟨_, rfl⟩

/-- For DecodeRowsAnswerTheirDirection and PinsWritesBothPins: a legal configuration, no fault. -/
theorem witness_legal_without_fault :
    (base .absolute .polled).cfg.legal = true ∧ (base .absolute .polled).fault = none := by decide

/-- Clause by clause: a tick to the greatest value; direction 0; a tick that leaves the range; out of slot. -/
theorem witness_SampleDecodesAndAccumulates :
    (let s := ((base .relative .polled).setPinB 1#1).setAcc 32766;
      s.cfg.legal = true ∧ s.fault = none ∧ s.pollSlot = some .sampler ∧
      tickOf s.prevPhase (s.pinA ++ s.pinB) = 1 ∧ s.acc + 1 ≤ 2 ^ (s.cfg.accW - 1) - 1) ∧
    (let s := ((base .relative .async).setPinB 1#1).setPinA 1#1;
      s.cfg.legal = true ∧ s.fault = none ∧ s.cfg.sched = .async ∧ tickOf s.prevPhase (s.pinA ++ s.pinB) = 0) ∧
    (let s := ((base .relative .async).setPinA 1#1).setAcc (-32768);
      s.cfg.legal = true ∧ s.fault = none ∧ s.cfg.sched = .async ∧
      tickOf s.prevPhase (s.pinA ++ s.pinB) = -1 ∧ ¬ -(2 ^ (s.cfg.accW - 1)) ≤ s.acc + -1) ∧
    (let s := dispatchTurn .relative;
      s.cfg.legal = true ∧ s.fault = none ∧ s.cfg.sched = .polled ∧ s.pollSlot ≠ some .sampler) := by decide

/-- No change, and a two-bit jump with the accumulator full. -/
theorem witness_InvalidTransitionOnlyMovesPrevPhase :
    (let s := base .relative .polled;
      s.cfg.legal = true ∧ s.fault = none ∧ s.pollSlot = some .sampler ∧ s.pinA ++ s.pinB = s.prevPhase) ∧
    (let s := (((base .relative .async).setPinB 1#1).setPinA 1#1).setAcc 32767;
      s.cfg.legal = true ∧ s.fault = none ∧ s.cfg.sched ≠ .polled ∧
      s.pinA ++ s.pinB = s.prevPhase ^^^ 0b11#2) := by decide

theorem witness_SampleIsIdempotent :
    (base .relative .async).cfg.sched = .async ∧
    (∃ t, exec .sample ((base .relative .async).setPinB 1#1) = .next t ∧ t.fault = none) ∧
    (∃ t, exec .reset ((base .relative .async).setPinB 1#1) = .next t ∧ t.fault = none) :=
  ⟨rfl, ⟨_, rfl, rfl⟩, ⟨_, rfl, rfl⟩⟩

/-- One whole turn of the +1 cycle, up to the greatest value. -/
theorem witness_SampledDirectionsSum :
    let s := (base .relative .async).setAcc 32763
    s.cfg.legal = true ∧ s.fault = none ∧ s.cfg.sched = .async ∧
      staysInRange s.cfg s.acc (ticksOf s.prevPhase [1#2, 3#2, 2#2, 0#2]) ∧ fitsAcc s.cfg s.acc = true := by
  refine ⟨by decide, rfl, rfl, ⟨by decide, by decide, by decide, by decide, trivial⟩, by decide⟩

theorem witness_GraySampledCountIsExact :
    let s := (base .relative .async).setAcc (-32768)
    (∀ d ∈ [(1 : Int), 1, -1, 0], d = 1 ∨ d = -1 ∨ d = 0) ∧ s.cfg.legal = true ∧ s.fault = none ∧
      s.cfg.sched = .async ∧ staysInRange s.cfg s.acc [1, 1, -1, 0] ∧ fitsAcc s.cfg s.acc = true := by
  refine ⟨by decide, by decide, rfl, rfl, ⟨by decide, by decide, by decide, by decide, trivial⟩, by decide⟩

/-- Clause by clause, at the ends of the range: in range, out of range, out of slot. -/
theorem witness_AccAddsExactlyOrFaults :
    (let s := (base .relative .polled).setAcc 32766;
      s.cfg.legal = true ∧ s.fault = none ∧ s.pollSlot = some .sampler ∧
      -(2 ^ (s.cfg.accW - 1)) ≤ s.acc + 1 ∧ s.acc + 1 ≤ 2 ^ (s.cfg.accW - 1) - 1) ∧
    (let s := (base .relative .async).setAcc (-32768);
      s.cfg.legal = true ∧ s.fault = none ∧ s.cfg.sched ≠ .polled ∧ ¬ -(2 ^ (s.cfg.accW - 1)) ≤ s.acc + -1) ∧
    (let s := dispatchTurn .absolute;
      s.cfg.legal = true ∧ s.fault = none ∧ s.cfg.sched = .polled ∧ s.pollSlot ≠ some .sampler) := by decide

theorem witness_StandaloneDrainReportsAndZeroes :
    (let s := (dispatchTurn .relative).setAcc (-1);
      s.cfg.legal = true ∧ s.fault = none ∧ s.dispState = .idle ∧ s.pollSlot = some .dispatcher) ∧
    ((emitting .relative .async 1 0#1).fault = none ∧ (emitting .relative .async 1 0#1).dispState = .emit) ∧
    ((flushing .relative .async).fault = none ∧ (flushing .relative .async).dispState = .flush) ∧
    (let s := base .relative .polled;
      s.dispState = .idle ∧ s.cfg.sched = .polled ∧ s.pollSlot ≠ some .dispatcher) := by decide

theorem witness_DrainReturnsExactSum :
    let s := (base .absolute .async).setAcc 32766
    (∀ d ∈ [(1 : Int), -1, 0], d = 1 ∨ d = -1 ∨ d = 0) ∧ s.cfg.legal = true ∧ s.fault = none ∧
      s.cfg.sched = .async ∧ s.dispState = .idle ∧ staysInRange s.cfg s.acc [1, -1, 0] ∧
      fitsAcc s.cfg s.acc = true := by
  refine ⟨by decide, by decide, rfl, rfl, rfl, ⟨by decide, by decide, by decide, trivial⟩, by decide⟩

theorem witness_ThousandUpThousandDown :
    let ds : List Int := List.replicate 1000 1 ++ List.replicate 1000 (-1)
    let s := base .relative .async
    ds.Perm (List.replicate 1000 1 ++ List.replicate 1000 (-1)) ∧ s.cfg.legal = true ∧ s.fault = none ∧
      s.cfg.sched = .async ∧ s.dispState = .idle ∧ s.acc = 0 :=
  ⟨List.Perm.refl _, by decide, rfl, rfl, rfl, rfl⟩

theorem witness_TickAndDrainCommuteWithoutLoss :
    let s := (base .relative .async).setAcc 32766
    s.cfg.legal = true ∧ s.fault = none ∧ s.cfg.sched = .async ∧ s.dispState = .idle ∧
      fitsAcc s.cfg (s.acc + 1) = true ∧ fitsAcc s.cfg (s.acc + -1) = true := by decide

/-- Clause by clause: nothing drained; a relative delta; an absolute delta that moves the value; one that the
clamp absorbs; out of slot. -/
theorem witness_DispatchDrainsAndSchedules :
    (let s := dispatchTurn .absolute;
      s.cfg.legal = true ∧ s.fault = none ∧ s.dispState = .idle ∧ s.pollSlot = some .dispatcher ∧ s.acc = 0) ∧
    (let s := (base .relative .async).setAcc (-32768);
      s.cfg.legal = true ∧ s.fault = none ∧ s.dispState = .idle ∧ s.acc ≠ 0 ∧ s.cfg.mode = .relative) ∧
    (let s := (base .absolute .async).setAcc 63;
      s.acc ≠ 0 ∧ s.cfg.mode = .absolute ∧
      BitVec.ofInt 7 (min (max ((s.ctrlValue.toNat : Int) + s.acc) 0) 127) ≠ s.lastEmitted) ∧
    (let s := (((base .absolute .async).setCtrlValue 127#7).setLastEmitted 127#7).setAcc 1;
      s.acc ≠ 0 ∧ s.cfg.mode = .absolute ∧
      BitVec.ofInt 7 (min (max ((s.ctrlValue.toNat : Int) + s.acc) 0) 127) = s.lastEmitted) ∧
    (let s := base .absolute .polled;
      s.fault = none ∧ s.dispState = .idle ∧ s.cfg.sched = .polled ∧ s.pollSlot ≠ some .dispatcher) := by decide

theorem witness_ClampEqualsUnitSteps : (0 : Int) ≤ 127 ∧ (127 : Int) ≤ 127 := by decide

theorem witness_EmitSendsOneMessage :
    (let s := emitting .relative .polled 1 1#1;
      s.cfg.legal = true ∧ s.fault = none ∧ s.dispState = .emit ∧ 1 ≤ s.rem ∧ s.cfg.mode = .relative) ∧
    (let s := emitting .absolute .async 1 0#1;
      s.cfg.legal = true ∧ s.fault = none ∧ s.dispState = .emit ∧ 1 ≤ s.rem ∧ s.cfg.mode = .absolute) := by decide

theorem witness_MessageRowsSendTheirMessage :
    (let s := (emitting .relative .async 1 0#1).setCfg { cfgOf .relative .async with channel := 15, cc := 127 };
      s.cfg.legal = true ∧ s.fault = none ∧ s.dispState = .emit ∧ 1 ≤ s.rem ∧ s.cfg.channel = (15#4).toNat ∧
      s.cfg.cc = (127#7).toNat ∧ s.cfg.mode = .relative ∧ s.rdir = 0#1 ∧ (s.setRdir 1#1).rdir = 1#1) ∧
    (let s := emitting .absolute .async 1 0#1;
      s.cfg.legal = true ∧ s.fault = none ∧ s.dispState = .emit ∧ 1 ≤ s.rem ∧ s.cfg.channel = (0#4).toNat ∧
      s.cfg.cc = (16#7).toNat ∧ s.cfg.mode = .absolute) := by decide

/-- The state is a relative one sending +1 on channel 0, CC 0x10; then an absolute one sending 64. -/
theorem witness_OtherMessageRowsAreStuck :
    (let s := emitting .relative .async 2 0#1;
      s.cfg.legal = true ∧ s.fault = none ∧ s.dispState = .emit ∧ 1 ≤ s.rem ∧
      s.cfg.channel ≠ (1#4).toNat ∧ s.cfg.cc ≠ (0x90#8).toNat ∧ s.rdir = 0#1 ∧ s.cfg.mode = .relative ∧
      (s.setRdir 1#1).rdir = 1#1) ∧
    (let s := emitting .absolute .async 1 0#1;
      s.cfg.legal = true ∧ s.fault = none ∧ s.dispState = .emit ∧ 1 ≤ s.rem ∧ s.cfg.mode = .absolute ∧
      s.ctrlValue.toNat ≠ (65#8).toNat) ∧
    (flushing .relative .async).dispState = .flush := by decide

theorem witness_FlushEndsTheCycle :
    let s := flushing .relative .polled
    s.cfg.legal = true ∧ s.fault = none ∧ s.dispState = .flush := by decide

/-- For RelativeCycleSendsOneMessagePerTick. -/
theorem witness_RelativeCycle :
    let s := (dispatchTurn .relative).setAcc (-1)
    s.cfg.legal = true ∧ s.fault = none ∧ s.dispState = .idle ∧ s.cfg.mode = .relative ∧
      s.pollSlot = some .dispatcher ∧ s.acc ≠ 0 := by decide

/-- For AbsoluteCycleSendsAtMostOneMessage: a value that moves, and one held at the bound. -/
theorem witness_AbsoluteCycle :
    (let s := (base .absolute .async).setAcc 32767;
      s.cfg.legal = true ∧ s.fault = none ∧ s.dispState = .idle ∧ s.cfg.mode = .absolute ∧ s.acc ≠ 0 ∧
      BitVec.ofInt 7 (min (max ((s.ctrlValue.toNat : Int) + s.acc) 0) 127) ≠ s.lastEmitted) ∧
    (let s := (((dispatchTurn .absolute).setCtrlValue 0#7).setLastEmitted 0#7).setAcc (-1);
      s.cfg.legal = true ∧ s.fault = none ∧ s.dispState = .idle ∧ s.pollSlot = some .dispatcher ∧ s.acc ≠ 0 ∧
      BitVec.ofInt 7 (min (max ((s.ctrlValue.toNat : Int) + s.acc) 0) 127) = s.lastEmitted) := by decide

/-- A delta of -2: CYCLE 2 fits, CYCLE 3 is too large, CYCLE 1 too small; a delta of 0: CYCLE 0 fits. -/
theorem witness_CycleNeedsTheScheduledCount :
    (let s := (base .relative .async).setAcc (-2);
      s.cfg.legal = true ∧ s.fault = none ∧ s.dispState = .idle ∧ s.rem = 0 ∧ 2 = scheduledMessages s ∧
      scheduledMessages s < 3 ∧ 1 < scheduledMessages s) ∧
    (let s := dispatchTurn .absolute;
      s.cfg.legal = true ∧ s.fault = none ∧ s.dispState = .idle ∧ s.pollSlot = some .dispatcher ∧ s.rem = 0 ∧
      0 = scheduledMessages s ∧ scheduledMessages s < 1) := by decide

theorem witness_ResetInitialisesTheBlock : midCycle.cfg.legal = true ∧ midCycle.fault = none := by decide

theorem witness_LaunchHoldsResetValues : (cfgOf .absolute .polled).legal = true := by decide

theorem witness_SecondResetChangesNothing :
    ∃ t u, exec .reset midCycle = .next t ∧ exec (.pins 0#1 1#1) t = .next u := ⟨_, _, rfl, rfl⟩

theorem witness_OutOfOrderDispatcherIsStuck :
    (let s := flushing .relative .async;
      s.cfg.legal = true ∧ s.fault = none ∧ s.dispState ≠ .reserved ∧ s.dispState ≠ .idle ∧ s.dispState ≠ .emit) ∧
    (let s := base .relative .async;
      s.cfg.legal = true ∧ s.fault = none ∧ s.dispState ≠ .reserved ∧ s.dispState ≠ .flush) ∧
    (((base .relative .async).setFault (some .fsmIllegal)).cfg.legal = true ∧
      ((base .relative .async).setFault (some .fsmIllegal)).fault = some .fsmIllegal) := by decide

theorem witness_ReservedStateRaisesFsmIllegal :
    let s := (base .relative .polled).setDispState .reserved
    (s.cfg.legal = true ∧ s.fault = none ∧ s.dispState = .reserved) ∧
      ∃ t, exec .flush s = .next t ∧ t.dispState = .reserved := ⟨by decide, _, rfl, rfl⟩

theorem witness_NoAgentStepsAfterFault :
    let s := (base .relative .polled).setFault (some .accOverflow)
    s.cfg.legal = true ∧ s.fault = some .accOverflow := by decide

theorem witness_FaultsArePrecise :
    ∃ t, exec .accPlus ((base .relative .async).setAcc 32767) = .next t ∧ t.fault ≠ none := ⟨_, rfl, by decide⟩

theorem witness_EachOperationHasOneFault :
    (∃ t, exec .accPlus ((base .relative .async).setAcc 32767) = .next t ∧ t.fault = some .accOverflow) ∧
    (∃ t, exec .flush ((base .relative .async).setDispState .reserved) = .next t ∧
      t.fault = some .fsmIllegal) := ⟨⟨_, rfl, rfl⟩, ⟨_, rfl, rfl⟩⟩

theorem witness_SamplerFrame :
    (∃ t, exec .sample ((base .relative .polled).setPinB 1#1) = .next t ∧ t.fault = none) ∧
    (∃ t, exec .accMinus ((base .relative .async).setAcc (-32768)) = .next t ∧ t.fault ≠ none) :=
  ⟨⟨_, rfl, rfl⟩, ⟨_, rfl, by decide⟩⟩

theorem witness_DispatchAndDrainFrame :
    (∃ t, exec .dispatch ((base .relative .async).setAcc 3) = .next t) ∧
    (∃ t, exec .dispatch ((base .absolute .async).setAcc 3) = .next t) ∧
    (∃ t, exec .drain ((base .absolute .async).setDispState .reserved) = .next t ∧ t.fault ≠ none) :=
  ⟨⟨_, rfl⟩, ⟨_, rfl⟩, ⟨_, rfl, by decide⟩⟩

theorem witness_EmitAndFlushFrame :
    (∃ t, exec .emit (emitting .relative .async 2 1#1) = .next t) ∧
    (∃ t, exec (.msgRelMinus 0#4 0x10#8) (emitting .relative .async 2 1#1) = .next t) ∧
    (∃ t, exec .flush (flushing .absolute .async) = .next t) ∧
    (∃ t, exec .emit ((base .absolute .async).setDispState .reserved) = .next t ∧ t.fault ≠ none) :=
  ⟨⟨_, rfl⟩, ⟨_, rfl⟩, ⟨_, rfl⟩, ⟨_, rfl, by decide⟩⟩

theorem witness_ResetPinsAndDecodeFrame :
    (∃ t, exec .reset midCycle = .next t) ∧ (∃ t, exec (.pins 0#1 1#1) midCycle = .next t) ∧
    (∃ t, exec .t1011 midCycle = .next t) := ⟨⟨_, rfl⟩, ⟨_, rfl⟩, ⟨_, rfl⟩⟩

theorem witness_PoliciesAreKeptApart :
    Instr.emit ≠ .reset ∧ (emitting .relative .async 1 0#1).cfg.mode = .relative ∧
      (emitting .absolute .async 1 0#1).cfg.mode = .absolute := by decide

theorem witness_TransportIsInvisible :
    let s := flushing .relative .async
    blockView s = blockView (s.setQueue [⟨0x0B#8, 0xB0#8, 0x10#8, 0x01#8⟩]) ∧
      s ≠ s.setQueue [⟨0x0B#8, 0xB0#8, 0x10#8, 0x01#8⟩] := by decide

/-- The last step of a polled cycle: its message is emitted and queued, the program's word is FLUSH. -/
def aboutToFlush : State :=
  (((flushing .relative .polled).setPollSlot (some .dispatcher)).setQueue
    [⟨0x0B#8, 0xB0#8, 0x10#8, 0x01#8⟩]).setProgram [.stim 0x70#8]

theorem witness_StepKeepsRegisterInvariant :
    RegInv aboutToFlush ∧ (∃ t, step aboutToFlush = .next t) ∧
    RegInv ((emitting .absolute .async 1 0#1).setCtrlValue 127#7) :=
  ⟨by constructor <;> decide, ⟨_, rfl⟩, by constructor <;> decide⟩

theorem witness_StepKeepsPollingOrder :
    aboutToFlush.cfg.sched = .polled ∧ PollInv aboutToFlush ∧ ∃ t, step aboutToFlush = .next t :=
  ⟨rfl, by constructor <;> decide, ⟨_, rfl⟩⟩

theorem witness_StepKeepsFlushPlacement : FlushInv aboutToFlush ∧ ∃ t, step aboutToFlush = .next t :=
  ⟨⟨by decide, fun _ _ => ⟨[], _, rfl⟩⟩, ⟨_, rfl⟩⟩

theorem witness_StepKeepsMessageFormat : MessageInv aboutToFlush ∧ ∃ t, step aboutToFlush = .next t := by
  refine ⟨fun m hm => ⟨0x01#8, .inl rfl, ?_⟩, ⟨_, rfl⟩⟩
  exact List.mem_singleton.1 hm

theorem witness_StepKeepsHostSubsequence : TransportInv aboutToFlush ∧ ∃ t, step aboutToFlush = .next t :=
  ⟨List.Sublist.refl _, ⟨_, rfl⟩⟩

theorem witness_LaunchMeetsInvariants : (cfgOf .relative .polled).sched = .polled := rfl

theorem witness_MessageBytesAreNeverReserved :
    (cfgOf .relative .async).legal = true ∧ policyValue .relative 0x01#8 ∧ policyValue .relative 0x7F#8 ∧
      policyValue .absolute 0x7F#8 ∧ policyValue .absolute 0x00#8 := by
  refine ⟨by decide, .inl rfl, .inr rfl, ?_, ?_⟩ <;> simp [policyValue]

end Sys2Proof.Tests.Slice0
end

namespace Sys2Proof.Machine

/-! ## What an effect and the agents' turns keep of the configuration, the program and the draws -/

variable {s t : State}

@[simp] theorem setPins_cfg (a b : BitVec 1) : (setPins a b s).cfg = s.cfg := rfl
@[simp] theorem setPins_program (a b : BitVec 1) : (setPins a b s).program = s.program := rfl
@[simp] theorem setPins_draws (a b : BitVec 1) : (setPins a b s).draws = s.draws := rfl

theorem Prepared.cfg_eq (h : Prepared s t) : t.cfg = s.cfg := by
  obtain ⟨p, n, rfl⟩ := h
  rfl

/-- R33: no operation writes the configuration. -/
theorem Effect.cfg_eq (h : Effect s t) : t.cfg = s.cfg := by
  cases h <;> simp

/-- The pending requests are no operation's to write (log 4). -/
theorem Effect.program_eq (h : Effect s t) : t.program = s.program := by
  cases h <;> simp

/-- Only EMIT draws a free value, the Transport's acceptance (log 6); no operation takes one back. -/
theorem Effect.draws_le (h : Effect s t) : s.draws ≤ t.draws := by
  cases h <;> simp

theorem drawnOperation_program (waiting : Option Agent) (s : State) :
    (drawnOperation waiting s).program = s.program := by
  obtain h | h := drawnOperation_effect waiting s
  · simp [h]
  · exact h.program_eq

/-- The draw of the operation itself is counted, whether or not the operation is enabled (R6, log 4). -/
theorem draws_lt_drawnOperation (waiting : Option Agent) (s : State) :
    s.draws < (drawnOperation waiting s).draws := by
  obtain h | h := drawnOperation_effect waiting s
  · simp [h]
  · exact h.draws_le

theorem draws_le_transportTurn (s : State) : s.draws ≤ (transportTurn s).draws := by
  obtain h | ⟨-, h⟩ := transportTurn_cases s <;> simp [h]

/-- With no request pending, a step under a legal configuration is a step of a free run (R196). -/
theorem step_of_program_nil (hl : s.cfg.legal = true) (hp : s.program = []) : step s = freeStep s := by
  simp [step, runStep, inRun_legal hl, hp, programRefusal]

theorem freeStep_of_fault_none (h : s.fault = none) :
    freeStep s = .next (transportTurn (drawnOperation none s)) := by
  simp [freeStep, h]

theorem freeStep_of_fault_some {c : FaultCode} (h : s.fault = some c) : freeStep s = .fault (.halted c) := by
  simp [freeStep, h]

end Sys2Proof.Machine

section
open Sys2Proof.Machine

/-- Settles O8: a free step performs a drawn operation, and a drawn operation that is not enabled is no obstacle
to the step (R187), so only a recorded fault stops it (R185). -/
theorem freeRunIsNeverStuck : Obligations.FreeRunIsNeverStuck := by
  intro s hl hp
  rw [step_of_program_nil hl hp]
  refine ⟨fun hf => ⟨_, freeStep_of_fault_none hf, ?_, ?_⟩, fun c hc => freeStep_of_fault_some hc⟩
  · rw [transportTurn_program, drawnOperation_program, hp]
  · exact (draws_lt_drawnOperation none s).trans_le (draws_le_transportTurn _)

/-- Settles O9: a step is at most one effect on a prepared state and then the Transport's turn (`step_effect`),
and none of the three writes the configuration. -/
theorem configurationNeverChanges : Obligations.ConfigurationNeverChanges := by
  intro s t h
  obtain ⟨s₀, u, hs, hu, rfl⟩ := step_effect h
  rw [transportTurn_cfg, ← hs.cfg_eq]
  obtain rfl | hu := hu
  · rfl
  · exact hu.cfg_eq

end

/-! ## The register invariant and the polling order -/

namespace Sys2Proof.Machine

theorem fitsAcc_zero (cfg : Config) : fitsAcc cfg 0 = true := by
  have h : (0 : Int) < 2 ^ (cfg.accW - 1) := by positivity
  rw [fitsAcc_iff]
  omega

/-- The magnitude of a value within s(ACC_W) is at most 2^(ACC_W-1) (R23, R29). -/
theorem natAbs_le_of_fitsAcc {cfg : Config} {x : Int} (h : fitsAcc cfg x = true) :
    x.natAbs ≤ 2 ^ (cfg.accW - 1) := by
  obtain ⟨hlo, hhi⟩ := fitsAcc_iff.1 h
  zify
  exact abs_le.2 ⟨hlo, by omega⟩

/-- Under either scheduling model a write of `poll_slot` keeps its presence right (R42). -/
theorem slotAfter_isSome {sc : Sched} {p : PollSlot} {old : Option PollSlot}
    (h : old.isSome = true ↔ sc = .polled) : (slotAfter sc p old).isSome = true ↔ sc = .polled := by
  cases sc with
  | polled => simp
  | async => exact h

end Sys2Proof.Machine

namespace Sys2Proof.Safety

open Sys2Proof.Machine

variable {s t : State}

/-- All of the state that the register invariant and the polling order speak of. -/
def controlView (s : State) :
    Config × Int × BitVec 7 × BitVec 7 × DispState × Nat × Option PollSlot :=
  (s.cfg, s.acc, s.ctrlValue, s.lastEmitted, s.dispState, s.rem, s.pollSlot)

theorem controlView_prepared (h : Prepared s t) : controlView t = controlView s := by
  obtain ⟨p, n, rfl⟩ := h
  rfl

@[simp] theorem controlView_transportTurn : controlView (transportTurn s) = controlView s := by
  simp [controlView]

/-- A predicate on the control view that the six effects on it keep is kept by every step: the other effects,
the step's own bookkeeping and the Transport's turn leave the view alone. -/
theorem step_keeps_of_controlView {P : State → Prop}
    (view : ∀ {s t}, P s → controlView t = controlView s → P t)
    (ticked : ∀ {s} (d : Int) (p : Phase), P s → samplerEnabled s = true → d.natAbs ≤ 1 →
      (d = 0 ∨ fitsAcc s.cfg (s.acc + d) = true) →
      P (passSlot .dispatcher ((s.setAcc (s.acc + d)).setPrevPhase p)))
    (drained : ∀ {s}, P s → dispatchEnabled s = true → P (drainReport s))
    (dispatched : ∀ {s}, P s → dispatchEnabled s = true → P (dispatchCycle s))
    (emitted : ∀ {s}, P s → emitEnabled s = true → P (emitOne s))
    (flushed : ∀ {s}, P s → flushEnabled s = true → P (flushCycle s))
    (wasReset : ∀ {s}, P s → P (resetBlock s))
    (hs : P s) (h : step s = .next t) : P t := by
  obtain ⟨s₀, u, hprep, hu, rfl⟩ := step_effect h
  have h₀ : P s₀ := view hs (controlView_prepared hprep)
  refine view ?_ controlView_transportTurn
  obtain rfl | hu := hu
  · exact h₀
  · cases hu with
    | decoded d => exact view h₀ rfl
    | raised info hr => exact view h₀ rfl
    | pinned a b hr => exact view h₀ rfl
    | ticked d p he hd hx => exact ticked d p h₀ he hd hx
    | drained he => exact drained h₀ he
    | dispatched he => exact dispatched h₀ he
    | emitted he => exact emitted h₀ he
    | flushed he => exact flushed h₀ he
    | wasReset hr => exact wasReset h₀

/-! ### The register invariant, effect by effect -/

theorem RegInv.of_controlView_eq (hs : RegInv s) (h : controlView t = controlView s) : RegInv t := by
  simp only [controlView, Prod.mk.injEq] at h
  obtain ⟨hcfg, hacc, hctrl, hlast, hdisp, hrem, hslot⟩ := h
  constructor <;> simp only [hcfg, hacc, hctrl, hlast, hdisp, hrem, hslot]
  exacts [hs.accRange, hs.remRange, hs.notReserved, hs.idleRem, hs.emitRem, hs.flushRem, hs.slotPresent,
    hs.absIdle, hs.absFlush, hs.absEmit]

section
variable (hacc : fitsAcc s.cfg s.acc = true) (hslot : s.pollSlot.isSome = true ↔ s.cfg.sched = .polled)
include hacc hslot

theorem RegInv.of_idle (hd : s.dispState = .idle) (hrem : s.rem = 0)
    (habs : s.cfg.mode = .absolute → s.lastEmitted = s.ctrlValue) : RegInv s where
  accRange := hacc
  slotPresent := hslot
  absIdle hm _ := habs hm
  idleRem _ := hrem
  remRange := by simp [hrem]
  notReserved := by simp [hd]
  emitRem := by simp [hd]
  flushRem _ := hrem
  absFlush hm _ := habs hm
  absEmit := by simp [hd]

theorem RegInv.of_emit (hd : s.dispState = .emit) (h1 : 1 ≤ s.rem) (hn : s.rem ≤ 2 ^ (s.cfg.accW - 1))
    (habs : s.cfg.mode = .absolute → s.rem = 1 ∧ s.lastEmitted ≠ s.ctrlValue) : RegInv s where
  accRange := hacc
  slotPresent := hslot
  absIdle := by simp [hd]
  idleRem := by simp [hd]
  remRange := hn
  notReserved := by simp [hd]
  emitRem _ := h1
  flushRem := by simp [hd]
  absFlush := by simp [hd]
  absEmit hm _ := habs hm

theorem RegInv.of_flush (hd : s.dispState = .flush) (hrem : s.rem = 0)
    (habs : s.cfg.mode = .absolute → s.lastEmitted = s.ctrlValue) : RegInv s where
  accRange := hacc
  slotPresent := hslot
  absIdle hm _ := habs hm
  idleRem _ := hrem
  remRange := by simp [hrem]
  notReserved := by simp [hd]
  emitRem := by simp [hd]
  flushRem _ := hrem
  absFlush hm _ := habs hm
  absEmit := by simp [hd]

end

theorem RegInv.setAcc {x : Int} (hs : RegInv s) (hx : fitsAcc s.cfg x = true) : RegInv (s.setAcc x) :=
  { hs with accRange := hx }

theorem RegInv.passSlot (p : PollSlot) (hs : RegInv s) : RegInv (passSlot p s) := by
  rw [passSlot_eq]
  exact { hs with slotPresent := slotAfter_isSome hs.slotPresent }

theorem RegInv.ticked {d : Int} (p : Phase) (hs : RegInv s)
    (hx : d = 0 ∨ fitsAcc s.cfg (s.acc + d) = true) :
    RegInv (Machine.passSlot .dispatcher ((s.setAcc (s.acc + d)).setPrevPhase p)) := by
  have hfits : fitsAcc s.cfg (s.acc + d) = true := by
    obtain rfl | hx := hx
    · simpa using hs.accRange
    · exact hx
  exact .passSlot _ ((hs.setAcc hfits).of_controlView_eq rfl)

theorem RegInv.drained (hs : RegInv s) : RegInv (drainReport s) :=
  .passSlot _ ((hs.setAcc (fitsAcc_zero _)).of_controlView_eq rfl)

theorem RegInv.dispatched (hs : RegInv s) (he : dispatchEnabled s = true) : RegInv (dispatchCycle s) := by
  obtain ⟨-, hidle, -⟩ := dispatchEnabled_iff.1 he
  obtain ⟨-, h⟩ | ⟨hne, hm, h⟩ | ⟨-, hm, hv, h⟩ | ⟨-, -, hv, h⟩ := dispatchCycle_cases s <;> rw [h]
  · exact .passSlot _ (hs.setAcc (fitsAcc_zero _))
  · exact .of_emit (fitsAcc_zero _) hs.slotPresent rfl (Int.natAbs_pos.2 hne)
      (natAbs_le_of_fitsAcc hs.accRange) (by simp [schedule, hm])
  · rw [hv.trans (hs.absIdle hm hidle)]
    exact .passSlot _ ((hs.setAcc (fitsAcc_zero _)).of_controlView_eq rfl)
  · exact .of_emit (fitsAcc_zero _) hs.slotPresent rfl le_rfl Nat.one_le_two_pow fun _ => ⟨rfl, Ne.symm hv⟩

/-- Before the last message the cycle is relative, because an absolute one has a single message (R156). -/
theorem RegInv.emitted (hs : RegInv s) (he : emitEnabled s = true) : RegInv (emitOne s) := by
  obtain ⟨-, hd, hpos⟩ := emitEnabled_iff.1 he
  have hacc : fitsAcc (emitOne s).cfg (emitOne s).acc = true := by simpa using hs.accRange
  have hslot : (emitOne s).pollSlot.isSome = true ↔ (emitOne s).cfg.sched = .polled := by
    simpa using hs.slotPresent
  by_cases hlast : s.rem = 1
  · exact .of_flush hacc hslot (by simp [hlast]) (by simp [hlast])
      fun hm => by rw [emitOne_ctrlValue, emitOne_lastEmitted_absolute (by simpa using hm)]
  · have hleft : 1 ≤ s.rem - 1 := by omega
    exact .of_emit hacc hslot (by rw [emitOne_dispState, if_neg (by omega), hd]) (by simpa using hleft)
      (by simpa using (Nat.sub_le _ _).trans hs.remRange)
      fun hm => absurd (hs.absEmit (by simpa using hm) hd).1 hlast

theorem RegInv.flushed (hs : RegInv s) (he : flushEnabled s = true) : RegInv (flushCycle s) := by
  obtain ⟨-, hd⟩ := flushEnabled_iff.1 he
  refine .passSlot _ (.of_idle ?_ ?_ rfl ?_ ?_)
  · simpa using hs.accRange
  · simpa using hs.slotPresent
  · simpa using hs.flushRem hd
  · simpa using fun hm => hs.absFlush hm hd

theorem RegInv.wasReset (hs : RegInv s) : RegInv (resetBlock s) :=
  .passSlot _ (.of_idle (fitsAcc_zero _) hs.slotPresent rfl rfl fun _ => rfl)

/-! ### The polling order, effect by effect -/

theorem PollInv.of_controlView_eq (hs : PollInv s) (h : controlView t = controlView s) : PollInv t := by
  simp only [controlView, Prod.mk.injEq] at h
  obtain ⟨-, hacc, -, -, hdisp, hrem, hslot⟩ := h
  constructor <;> simp only [hacc, hdisp, hrem, hslot]
  exacts [hs.atSampler, hs.atDispatcher, hs.inCycle]

/-- An iteration starts over: the Sampler's slot, with nothing counted and no cycle open (R197). -/
theorem PollInv.of_sampler (hslot : s.pollSlot = some .sampler) (hd : s.dispState = .idle)
    (hacc : s.acc = 0) : PollInv s where
  atSampler _ := ⟨hd, hacc⟩
  atDispatcher := by simp [hslot]
  inCycle := by simp [hd]

theorem PollInv.of_dispatcher (hslot : s.pollSlot = some .dispatcher) (hacc : s.acc.natAbs ≤ 1)
    (hcycle : s.dispState ≠ .idle → s.acc = 0 ∧ s.rem ≤ 1) : PollInv s where
  atSampler := by simp [hslot]
  atDispatcher _ := hacc
  inCycle hd := ⟨hslot, hcycle hd⟩

section
variable (hp : s.cfg.sched = .polled)
include hp

theorem PollInv.ticked {d : Int} (p : Phase) (hs : PollInv s) (he : samplerEnabled s = true)
    (hd : d.natAbs ≤ 1) : PollInv (passSlot .dispatcher ((s.setAcc (s.acc + d)).setPrevPhase p)) := by
  have hslot : s.pollSlot = some .sampler := by
    simpa [hp] using samplerSlot_iff.1 (samplerEnabled_iff.1 he).2
  obtain ⟨hidle, hacc⟩ := hs.atSampler hslot
  exact .of_dispatcher (by simp [hp]) (by simpa [hacc] using hd) (by simp [hidle])

theorem PollInv.drained (he : dispatchEnabled s = true) : PollInv (drainReport s) := by
  obtain ⟨-, hidle, -⟩ := dispatchEnabled_iff.1 he
  exact .of_sampler (by simp [hp]) (by simpa using hidle) (by simp)

theorem PollInv.dispatched (hs : PollInv s) (he : dispatchEnabled s = true) : PollInv (dispatchCycle s) := by
  obtain ⟨-, hidle, hds⟩ := dispatchEnabled_iff.1 he
  have hslot : s.pollSlot = some .dispatcher := by simpa [hp] using dispatcherSlot_iff.1 hds
  obtain ⟨-, h⟩ | ⟨-, -, h⟩ | ⟨-, -, -, h⟩ | ⟨-, -, -, h⟩ := dispatchCycle_cases s <;> rw [h]
  · exact .of_sampler (by simp [hp]) (by simpa using hidle) (by simp)
  · exact .of_dispatcher hslot (by simp [schedule]) fun _ => ⟨rfl, hs.atDispatcher hslot⟩
  · exact .of_sampler (by simp [hp]) (by simpa using hidle) (by simp)
  · exact .of_dispatcher hslot (by simp [schedule]) fun _ => ⟨rfl, le_rfl⟩

omit hp in
theorem PollInv.emitted (hs : PollInv s) (he : emitEnabled s = true) : PollInv (emitOne s) := by
  obtain ⟨-, hd, -⟩ := emitEnabled_iff.1 he
  obtain ⟨hslot, hacc, hrem⟩ := hs.inCycle (by simp [hd])
  exact .of_dispatcher (by simpa using hslot) (by simp [hacc]) fun _ => by simpa [hacc] using by omega

theorem PollInv.flushed (hs : PollInv s) (he : flushEnabled s = true) : PollInv (flushCycle s) := by
  obtain ⟨-, hd⟩ := flushEnabled_iff.1 he
  obtain ⟨-, hacc, -⟩ := hs.inCycle (by simp [hd])
  exact .of_sampler (by simp [hp]) (by simp) (by simpa using hacc)

theorem PollInv.wasReset : PollInv (resetBlock s) :=
  .of_sampler (by simp [hp]) (by simp) (by simp)

end

end Sys2Proof.Safety

section
open Sys2Proof.Machine Sys2Proof.Safety

/-- Settles O49: each of the six effects on the control view keeps the register invariant. -/
theorem stepKeepsRegisterInvariant : Obligations.StepKeepsRegisterInvariant := fun _ _ =>
  step_keeps_of_controlView RegInv.of_controlView_eq (fun _ p hs _ _ hx => hs.ticked p hx)
    (fun hs _ => hs.drained) RegInv.dispatched RegInv.emitted RegInv.flushed RegInv.wasReset

/-- Settles O50: each of the six effects on the control view keeps the polling order under POLLED, which no
step leaves. -/
theorem stepKeepsPollingOrder : Obligations.StepKeepsPollingOrder := by
  intro s t hp hs h
  suffices hk : t.cfg.sched = .polled ∧ PollInv t from hk.2
  refine step_keeps_of_controlView (P := fun u => u.cfg.sched = .polled ∧ PollInv u) ?view
    (fun d p hu he hd _ => ⟨by simpa using hu.1, .ticked hu.1 p hu.2 he hd⟩)
    (fun hu he => ⟨by simpa using hu.1, .drained hu.1 he⟩)
    (fun hu he => ⟨by simpa using hu.1, .dispatched hu.1 hu.2 he⟩)
    (fun hu he => ⟨by simpa using hu.1, hu.2.emitted he⟩)
    (fun hu he => ⟨by simpa using hu.1, .flushed hu.1 hu.2 he⟩)
    (fun hu => ⟨by simpa using hu.1, .wasReset hu.1⟩) ⟨hp, hs⟩ h
  intro u v hu hv
  have hcfg : v.cfg = u.cfg := congrArg Prod.fst hv
  exact ⟨hcfg ▸ hu.1, hu.2.of_controlView_eq hv⟩

end

/-! ## Answers of single operations, and what each leaves alone -/

namespace Sys2Proof.Machine

variable {s t : State}

/-- R33: no operation has a meaning under an illegal configuration. -/
theorem exec_illegal (h : s.cfg.legal = false) (i : Instr) : exec i s = .refused .badConfig := by
  cases i <;> exact inRun_illegal h

theorem execFlush_enabled (h : flushEnabled s = true) : exec .flush s = .next (flushCycle s) := by
  obtain ⟨hr, hd⟩ := flushEnabled_iff.1 h
  exact dispatcherStep_enabled hr hd nofun

theorem execReset_ready (h : ready s = true) : exec .reset s = .next (resetBlock s) := agentStep_ready h

theorem idleStep_outOfSlot {op : OpName} {k : Result} (hr : ready s = true) (hd : s.dispState = .idle)
    (hs : dispatcherSlot s = false) : idleStep op s k = .fault (.stuckPollSlot op) := by
  simp [idleStep, dispatcherStep_enabled hr hd, hs]

/-- R102: a SAMPLE in its slot, with the sum in range, adds its tick and takes the pins. -/
theorem execSample_enabled (he : samplerEnabled s = true)
    (hf : fitsAcc s.cfg (s.acc + tickOf s.prevPhase (phaseOf s.pinA s.pinB)) = true) :
    exec .sample s = .next (passSlot .dispatcher
      ((s.setAcc (s.acc + tickOf s.prevPhase (phaseOf s.pinA s.pinB))).setPrevPhase
        (phaseOf s.pinA s.pinB))) := by
  have htick : sampleTick (decodeDirection s.prevPhase (phaseOf s.pinA s.pinB)) s =
      .ok (s.setAcc (s.acc + tickOf s.prevPhase (phaseOf s.pinA s.pinB))) := by
    unfold sampleTick
    split
    · rename_i h0
      simp [tickOf, dirValue_eq_zero h0, State.setAcc]
    · exact accumulate_fits (decodeDirection_ne _ _) hf
  refine (samplerStep_enabled he).trans ?_
  simp only [sampleOnce, htick]
  rfl

/-- A drawn operation of the waiting agent itself is no step (R187, log 8). -/
theorem performDrawn_waiting {w : Byte} {i : Instr} {waiting : Option Agent} (hw : decodeStim w = .ok i)
    (ha : agentOf i = waiting) : performDrawn waiting w s = s := by
  simp [performDrawn, hw, ha]

theorem performDrawn_next {w : Byte} {i : Instr} {waiting : Option Agent} (hw : decodeStim w = .ok i)
    (ha : agentOf i ≠ waiting) (he : exec i s = .next t) : performDrawn waiting w s = t := by
  simp [performDrawn, hw, ha, he, stateAfter]

/-! ### What an operation did, where it answers a next state -/

/-- The operation raised a fault, on a state that had none (R185). -/
def Raised (s t : State) : Prop := s.fault = none ∧ ∃ info, t = raise info s

theorem Raised.of_ready {info : FaultInfo} (h : ready s = true) : Raised s (raise info s) :=
  ⟨(ready_iff.1 h).2, info, rfl⟩

theorem raising_map_next {r : Except FaultInfo State} {f : State → State}
    (h : raising s (r.map f) = .next t) : (∃ u, r = .ok u ∧ t = f u) ∨ ∃ info, t = raise info s := by
  cases r with
  | ok u => exact .inl ⟨u, rfl, by cases h; rfl⟩
  | error info => exact .inr ⟨info, by cases h; rfl⟩

theorem accStep_next {dir : DirBits} (h : accStep dir s = .next t) :
    Raised s t ∨ ∃ x, t = passSlot .dispatcher (s.setAcc x) := by
  obtain ⟨he, h⟩ := samplerStep_next h
  obtain ⟨u, ha, rfl⟩ | ⟨info, rfl⟩ := raising_map_next h
  · exact .inr ⟨_, by rw [(accumulate_ok ha).2]⟩
  · exact .inl (.of_ready (samplerEnabled_iff.1 he).1)

theorem execSample_next (h : exec .sample s = .next t) :
    Raised s t ∨ ∃ x p, t = passSlot .dispatcher ((s.setAcc x).setPrevPhase p) := by
  obtain ⟨he, h⟩ := samplerStep_next h
  obtain ⟨u, ha, rfl⟩ | ⟨info, rfl⟩ := raising_map_next h
  · exact .inr ⟨_, _, by rw [(sampleTick_ok ha).1]⟩
  · exact .inl (.of_ready (samplerEnabled_iff.1 he).1)

/-- A Sampler operation writes `acc` and `prev_phase`, ACC only the former, and passes the slot on. -/
theorem execSampler_next {i : Instr} (hi : i = .sample ∨ i = .accPlus ∨ i = .accMinus ∨ i = .accZero)
    (h : exec i s = .next t) :
    Raised s t ∨ ∃ x p, t = passSlot .dispatcher ((s.setAcc x).setPrevPhase p) ∧
      (i ≠ .sample → p = s.prevPhase) := by
  have ofAcc {dir : DirBits} (h : accStep dir s = .next t) :
      Raised s t ∨ ∃ x p, t = passSlot .dispatcher ((s.setAcc x).setPrevPhase p) ∧
        (i ≠ .sample → p = s.prevPhase) :=
    (accStep_next h).imp id fun ⟨x, ht⟩ => ⟨x, s.prevPhase, ht, fun _ => rfl⟩
  obtain rfl | rfl | rfl | rfl := hi
  · exact (execSample_next h).imp id fun ⟨x, p, ht⟩ => ⟨x, p, ht, fun hne => absurd rfl hne⟩
  · exact ofAcc h
  · exact ofAcc h
  · exact ofAcc h

theorem execDispatchOrDrain_next {i : Instr} (hi : i = .dispatch ∨ i = .drain) (h : exec i s = .next t) :
    Raised s t ∨ (i = .dispatch ∧ t = dispatchCycle s) ∨ (i = .drain ∧ t = drainReport s) := by
  obtain rfl | rfl := hi
  · obtain ⟨hr, rfl⟩ | ⟨-, h⟩ := idleStep_next h
    · exact .inl (.of_ready hr)
    · exact .inr (.inl ⟨rfl, by cases h; rfl⟩)
  · obtain ⟨hr, rfl⟩ | ⟨-, h⟩ := idleStep_next h
    · exact .inl (.of_ready hr)
    · exact .inr (.inr ⟨rfl, by cases h; rfl⟩)

theorem execFlush_next (h : exec .flush s = .next t) : Raised s t ∨ t = flushCycle s := by
  obtain ⟨hr, ⟨-, rfl⟩ | ⟨-, h⟩⟩ := dispatcherStep_next h
  · exact .inl (.of_ready hr)
  · exact .inr (by cases h; rfl)

/-- EMIT and the message rows are the one step that sends a message (log 7). -/
theorem execEmitOrFlush_next {i : Instr} (hi : i = .emit ∨ i = .flush ∨ (∃ c n, i = .msgRelPlus c n) ∨
      (∃ c n, i = .msgRelMinus c n) ∨ (∃ c n v, i = .msgAbs c n v)) (h : exec i s = .next t) :
    Raised s t ∨ (i ≠ .flush ∧ t = emitOne s) ∨ (i = .flush ∧ t = flushCycle s) := by
  have ofEmit {may : Bool} (hne : i ≠ .flush) (h : emitStep may s = .next t) :
      Raised s t ∨ (i ≠ .flush ∧ t = emitOne s) ∨ (i = .flush ∧ t = flushCycle s) := by
    obtain ⟨hr, rfl⟩ | ⟨-, -, rfl⟩ := emitStep_next h
    · exact .inl (.of_ready hr)
    · exact .inr (.inl ⟨hne, rfl⟩)
  obtain rfl | rfl | ⟨c, n, rfl⟩ | ⟨c, n, rfl⟩ | ⟨c, n, v, rfl⟩ := hi
  · exact ofEmit nofun h
  · exact (execFlush_next h).imp id fun ht => .inr ⟨rfl, ht⟩
  · exact ofEmit nofun h
  · exact ofEmit nofun h
  · exact ofEmit nofun h

theorem execReset_next (h : exec .reset s = .next t) : t = resetBlock s := by
  obtain ⟨-, h⟩ := agentStep_next h
  cases h; rfl

theorem execPins_next {a b : BitVec 1} (h : exec (.pins a b) s = .next t) : t = setPins a b s := by
  obtain ⟨-, h⟩ := agentStep_next h
  cases h; rfl

/-- The instructions that belong to no agent are the DECODE rows (R100, R195). -/
theorem exec_of_agentOf_none {i : Instr} (hi : agentOf i = none) (s : State) :
    ∃ p c, exec i s = decodeStep p c s := by
  cases i with
  | pins | sample | accPlus | accMinus | accZero | drain | dispatch | emit | flush | reset => cases hi
  | msgRelPlus | msgRelMinus | msgAbs => cases hi
  | _ => exact ⟨_, _, rfl⟩

theorem exec_next_of_agentOf_none {i : Instr} (hi : agentOf i = none) (h : exec i s = .next t) :
    ∃ d, t = s.setDecodeOut d := by
  obtain ⟨p, c, he⟩ := exec_of_agentOf_none hi s
  obtain ⟨-, h⟩ := inRun_next (he.symm.trans h)
  cases h
  exact ⟨_, rfl⟩

/-! ### What DISPATCH leaves alone under each policy (R153) -/

theorem dispatchCycle_ctrlValue_relative (h : s.cfg.mode = .relative) :
    (dispatchCycle s).ctrlValue = s.ctrlValue := by
  obtain ⟨-, h'⟩ | ⟨-, -, h'⟩ | ⟨-, hm, -⟩ | ⟨-, hm, -⟩ := dispatchCycle_cases s
  · simp [h']
  · simp [h', schedule]
  · simp [h] at hm
  · simp [h] at hm

theorem dispatchCycle_rdir_absolute (h : s.cfg.mode = .absolute) : (dispatchCycle s).rdir = s.rdir := by
  obtain ⟨-, h'⟩ | ⟨-, hm, -⟩ | ⟨-, -, -, h'⟩ | ⟨-, -, -, h'⟩ := dispatchCycle_cases s
  · simp [h']
  · simp [h] at hm
  · simp [h']
  · simp [h', schedule]

theorem dispatchCycle_pollSlot_async (h : s.cfg.sched = .async) :
    (dispatchCycle s).pollSlot = s.pollSlot := by
  obtain ⟨-, h'⟩ | ⟨-, -, h'⟩ | ⟨-, -, -, h'⟩ | ⟨-, -, -, h'⟩ := dispatchCycle_cases s <;>
    simp [h', h, schedule]

/-! ### The launch state -/

theorem launch_pollSlot (cfg : Config) (a b : BitVec 1) :
    (State.launch cfg a b).pollSlot = if cfg.sched = .polled then some .sampler else none := by
  unfold State.launch
  cases cfg.sched <;> rfl

/-- A RESET right after the launch finds every register at its reset value (R40, R211). -/
theorem resetBlock_launch (cfg : Config) (a b : BitVec 1) :
    resetBlock (State.launch cfg a b) = State.launch cfg a b := by
  have hslot : slotAfter cfg.sched .sampler (State.launch cfg a b).pollSlot =
      (State.launch cfg a b).pollSlot := by
    rw [launch_pollSlot]
    cases cfg.sched <;> rfl
  refine (passSlot_eq .sampler (State.launch cfg a b)).trans ?_
  exact congrArg (State.launch cfg a b).setPollSlot hslot

end Sys2Proof.Machine

section
open Sys2Proof Sys2Proof.Machine Sys2Proof.Safety

/-- Settles O5: the step and every operation begin with the check of the configuration (R33). -/
theorem illegalConfigRefused : Obligations.IllegalConfigRefused := by
  intro s h
  have hl : s.cfg.legal = false := by
    rw [← Bool.not_eq_true, legal_iff]
    omega
  exact ⟨inRun_illegal hl, exec_illegal hl⟩

/-- Settles O30: in FLUSH the answer is `flushCycle`, field by field the state of the statement. -/
theorem flushEndsTheCycle : Obligations.FlushEndsTheCycle := by
  intro s hl hf hd
  rw [execFlush_enabled (flushEnabled_iff.2 ⟨ready_iff.2 ⟨hl, hf⟩, hd⟩)]
  congr 1
  ext1 <;> simp [slotAfter_eq_ite]

/-- Settles O43: a Sampler operation raised, or wrote only what `execSampler_next` names. -/
theorem samplerFrame : Obligations.SamplerFrame := by
  intro i s t hi h
  obtain ⟨hf, info, rfl⟩ | ⟨x, p, rfl, hp⟩ := execSampler_next hi h
  · simp [hf]
  · simp +contextual [hp]

/-- Settles O44: DISPATCH and DRAIN raised, or did what `dispatchCycle` and `drainReport` do. -/
theorem dispatchAndDrainFrame : Obligations.DispatchAndDrainFrame := by
  intro i s t hi h
  obtain ⟨hf, info, rfl⟩ | ⟨rfl, rfl⟩ | ⟨rfl, rfl⟩ := execDispatchOrDrain_next hi h
  · simp [hf]
  · simp +contextual [dispatchCycle_ctrlValue_relative, dispatchCycle_rdir_absolute,
      dispatchCycle_pollSlot_async]
  · simp +contextual

/-- Settles O45: EMIT, a message row and FLUSH raised, or did what `emitOne` and `flushCycle` do. -/
theorem emitAndFlushFrame : Obligations.EmitAndFlushFrame := by
  intro i s t hi h
  obtain ⟨-, info, rfl⟩ | ⟨hne, rfl⟩ | ⟨rfl, rfl⟩ := execEmitOrFlush_next hi h
  · simp
  · simp +contextual [hne, emitOne_lastEmitted_relative]
  · simp +contextual

/-- Settles O46: each of the three has one answer, and only the fields it writes differ. -/
theorem resetPinsAndDecodeFrame : Obligations.ResetPinsAndDecodeFrame := by
  intro i s t h
  refine ⟨?reset, ?pins, ?decode⟩
  case reset =>
    rintro rfl
    cases execReset_next h
    simp +contextual
  case pins =>
    rintro a b rfl
    cases execPins_next h
    rfl
  case decode =>
    intro hi
    have hnone : ∀ j ∈ [Instr.t0000, .t0001, .t0010, .t0011, .t0100, .t0101, .t0110, .t0111, .t1000, .t1001,
        .t1010, .t1011, .t1100, .t1101, .t1110, .t1111], agentOf j = none := by decide
    obtain ⟨d, rfl⟩ := exec_next_of_agentOf_none (hnone i hi) h
    rfl

/-- Settles O57: a SAMPLE drawn while DISPATCH waits passes the slot to the Dispatcher, still in IDLE. -/
theorem stuckIsNotFinal : Obligations.StuckIsNotFinal := by
  intro s hl hf hp hd hslot hfits
  have hr : ready s = true := ready_iff.2 ⟨hl, hf⟩
  have hsample := execSample_enabled (samplerEnabled_iff.2 ⟨hr, samplerSlot_iff.2 (.inr hslot)⟩) hfits
  refine ⟨idleStep_outOfSlot hr hd (by simp [dispatcherSlot, hp, hslot]), ?_,
    fun w i hw ha => performDrawn_waiting hw ha⟩
  rw [performDrawn_next (show decodeStim 0x20#8 = .ok .sample by decide) (by decide) hsample]
  exact ⟨_, idleStep_enabled (dispatchEnabled_iff.2
    ⟨ready_iff.2 (by simp [hl, hf]), by simpa using hd, dispatcherSlot_iff.2 (.inr (by simp [hp]))⟩)⟩

/-- Settles O36: by the definition of the launch state, which RESET leaves as it is (`resetBlock_launch`). -/
theorem launchHoldsResetValues : Obligations.LaunchHoldsResetValues := by
  intro cfg a b
  refine ⟨rfl, rfl, rfl, rfl, rfl, rfl, rfl, launch_pollSlot cfg a b, rfl, rfl, rfl, rfl, rfl, fun hl => ?_⟩
  rw [execReset_ready (ready_iff.2 ⟨hl, rfl⟩), resetBlock_launch]

/-- Settles O54: the launch state is in IDLE with nothing counted, and under POLLED in the Sampler's slot. -/
theorem launchMeetsInvariants : Obligations.LaunchMeetsInvariants := by
  intro cfg a b
  have hpolled (hp : cfg.sched = .polled) : (State.launch cfg a b).pollSlot = some .sampler := by
    simp [launch_pollSlot, hp]
  refine ⟨.of_idle (fitsAcc_zero cfg) ?_ rfl rfl fun _ => rfl, fun hp => .of_sampler (hpolled hp) rfl rfl,
    ⟨rfl, fun _ => nofun⟩, fun _ => nofun, .slnil, rfl, rfl, rfl, hpolled⟩
  rw [launch_pollSlot]
  cases h : cfg.sched <;> simp [State.launch, h]

end

/-! ## Flush placement, and ticks, samples and requests one after the other -/

namespace Sys2Proof.Safety

open Sys2Proof.Machine

variable {s t : State}

/-! ### Flush placement, effect by effect -/

/-- Only a flush event asks anything of the events before it. -/
theorem flushesFollowEmits_append_of_ne_flush {e : Event} (he : e ≠ .flush) (p : Bool) (es : List Event) :
    flushesFollowEmits p (es ++ [e]) = flushesFollowEmits p es := by
  induction es generalizing p with
  | nil =>
    cases e with
    | flush => exact absurd rfl he
    | _ => rfl
  | cons x xs ih => cases x <;> simp only [List.cons_append, flushesFollowEmits, ih]

/-- A flush event right after an emit event is where R151 wants it. -/
theorem flushesFollowEmits_append_flush {es : List Event} (hes : endsWithEmit es) (p : Bool) :
    flushesFollowEmits p (es ++ [.flush]) = flushesFollowEmits p es := by
  obtain ⟨pre, m, rfl⟩ := hes
  induction pre generalizing p with
  | nil => rfl
  | cons x xs ih => cases x <;> simp only [List.cons_append, flushesFollowEmits, ih]

theorem FlushInv.congr (hs : FlushInv s) (htrace : t.trace = s.trace) (hfault : t.fault = s.fault)
    (hdisp : t.dispState = s.dispState) : FlushInv t where
  traceOk := htrace ▸ hs.traceOk
  pending hf hd := htrace ▸ hs.pending (hfault ▸ hf) (hdisp ▸ hd)

theorem FlushInv.of_not_flush (htrace : flushesFollowEmits false s.trace = true) (hd : s.dispState ≠ .flush) :
    FlushInv s where
  traceOk := htrace
  pending _ h := absurd h hd

theorem FlushInv.raised (info : FaultInfo) (hs : FlushInv s) : FlushInv (raise info s) where
  traceOk := by simpa [flushesFollowEmits_append_of_ne_flush] using hs.traceOk
  pending := by simp

theorem FlushInv.drained (hs : FlushInv s) (he : dispatchEnabled s = true) : FlushInv (drainReport s) := by
  obtain ⟨-, hidle, -⟩ := dispatchEnabled_iff.1 he
  refine .of_not_flush ?_ (by simp [hidle])
  simpa [flushesFollowEmits_append_of_ne_flush] using hs.traceOk

/-- DISPATCH leads to EMIT or stays in IDLE (R157): FLUSH is never reached without a message. -/
theorem dispatchCycle_dispState_ne_flush (he : dispatchEnabled s = true) :
    (dispatchCycle s).dispState ≠ .flush := by
  obtain ⟨-, hidle, -⟩ := dispatchEnabled_iff.1 he
  obtain ⟨-, h⟩ | ⟨-, -, h⟩ | ⟨-, -, -, h⟩ | ⟨-, -, -, h⟩ := dispatchCycle_cases s <;>
    simp [h, schedule, hidle]

theorem FlushInv.dispatched (hs : FlushInv s) (he : dispatchEnabled s = true) : FlushInv (dispatchCycle s) :=
  .of_not_flush (by simpa using hs.traceOk) (dispatchCycle_dispState_ne_flush he)

theorem FlushInv.emitted (hs : FlushInv s) : FlushInv (emitOne s) where
  traceOk := by simpa [flushesFollowEmits_append_of_ne_flush] using hs.traceOk
  pending _ _ := ⟨s.trace, _, emitOne_trace⟩

/-- The one effect that writes a flush event starts in FLUSH, where the trace ends with an emit event. -/
theorem FlushInv.flushed (hs : FlushInv s) (he : flushEnabled s = true) : FlushInv (flushCycle s) := by
  obtain ⟨hr, hd⟩ := flushEnabled_iff.1 he
  have hemit : endsWithEmit s.trace := hs.pending (ready_iff.1 hr).2 hd
  refine .of_not_flush ?_ (by simp)
  rw [flushCycle_trace, flushesFollowEmits_append_flush hemit]
  exact hs.traceOk

theorem FlushInv.wasReset (hs : FlushInv s) : FlushInv (resetBlock s) :=
  .of_not_flush (by simpa using hs.traceOk) (by simp)

theorem FlushInv.effect (hs : FlushInv s) (h : Effect s t) : FlushInv t := by
  cases h with
  | decoded d => exact hs.congr rfl rfl rfl
  | raised info hr => exact hs.raised info
  | pinned a b hr => exact hs.congr rfl rfl rfl
  | ticked d p he hd hx => exact hs.congr (by simp) (by simp) (by simp)
  | drained he => exact hs.drained he
  | dispatched he => exact hs.dispatched he
  | emitted he => exact hs.emitted
  | flushed he => exact hs.flushed he
  | wasReset hr => exact hs.wasReset

theorem FlushInv.prepared (hs : FlushInv s) (h : Prepared s t) : FlushInv t := by
  obtain ⟨p, n, rfl⟩ := h
  exact hs.congr rfl rfl rfl

theorem FlushInv.transportTurn (hs : FlushInv s) : FlushInv (transportTurn s) :=
  hs.congr transportTurn_trace transportTurn_fault transportTurn_dispState

/-! ### Runs -/

theorem runAll_cons_of_next {i : Instr} {is : List Instr} (h : exec i s = .next t) :
    runAll (i :: is) s = runAll is t := by
  simp [runAll, h]

theorem runAll_pair {i j : Instr} {u : State} (hi : exec i s = .next t) (hj : exec j t = .next u) :
    runAll [i, j] s = .next u := by
  rw [runAll_cons_of_next hi, runAll_cons_of_next hj, runAll]

end Sys2Proof.Safety

namespace Sys2Proof.Machine

variable {s t : State}

/-! ### ASYNC, where every agent has its slot (R196) -/

theorem passSlot_async (h : s.cfg.sched = .async) (p : PollSlot) : passSlot p s = s := by
  simp [passSlot, h]

theorem samplerEnabled_async (h : s.cfg.sched = .async) (hr : ready s = true) : samplerEnabled s = true :=
  samplerEnabled_iff.2 ⟨hr, samplerSlot_iff.2 (.inl h)⟩

theorem execDrain_async (h : s.cfg.sched = .async) (hr : ready s = true) (hd : s.dispState = .idle) :
    exec .drain s = .next (reportDrain s.acc (s.setAcc 0)) := by
  refine (idleStep_enabled (dispatchEnabled_iff.2 ⟨hr, hd, dispatcherSlot_iff.2 (.inl h)⟩)).trans ?_
  exact congrArg _ (passSlot_async (s := reportDrain s.acc (s.setAcc 0)) h .sampler)

/-! ### SAMPLE of a transition without a tick -/

/-- The table gives no direction to a phase that did not change (R74). -/
theorem decodeDirection_self (p : Phase) : decodeDirection p p = 0b00#2 := by
  revert p; decide

/-- R103: a SAMPLE without a tick takes the pins and leaves `acc` alone, whatever `acc` holds. -/
theorem execSample_of_noTick (he : samplerEnabled s = true)
    (h0 : decodeDirection s.prevPhase (phaseOf s.pinA s.pinB) = 0b00#2) :
    exec .sample s = .next (passSlot .dispatcher (s.setPrevPhase (phaseOf s.pinA s.pinB))) := by
  refine (samplerStep_enabled he).trans ?_
  simp only [sampleOnce, sampleTick, h0, if_pos]
  rfl

/-- R104: with the pins as `prev_phase` has them, SAMPLE under ASYNC changes nothing. -/
theorem execSample_of_prevPhase_eq (h : s.cfg.sched = .async) (hr : ready s = true)
    (hp : s.prevPhase = phaseOf s.pinA s.pinB) : exec .sample s = .next s := by
  rw [execSample_of_noTick (samplerEnabled_async h hr) (by rw [hp, decodeDirection_self]), ← hp]
  exact congrArg _ (passSlot_async h .dispatcher)

/-- A SAMPLE that did not fault leaves the pins' phase in `prev_phase` (R102). -/
theorem execSample_prevPhase (h : exec .sample s = .next t) (hf : t.fault = none) :
    t.prevPhase = phaseOf t.pinA t.pinB := by
  obtain ⟨-, h⟩ := samplerStep_next h
  obtain ⟨u, hu, rfl⟩ | ⟨info, rfl⟩ := raising_map_next h
  · rw [(sampleTick_ok hu).1]
    simp
  · simp at hf

theorem execReset_prevPhase (h : exec .reset s = .next t) : t.prevPhase = phaseOf t.pinA t.pinB := by
  rw [execReset_next h]
  simp

theorem execSample_legal (h : exec .sample s = .next t) : s.cfg.legal = true :=
  (ready_iff.1 (samplerEnabled_iff.1 (samplerStep_next h).1).1).1

theorem execReset_legal (h : exec .reset s = .next t) : s.cfg.legal = true :=
  (ready_iff.1 (agentStep_next h).1).1

/-! ### ACC of one tick -/

/-- One tick from 0 is within every legal width (R23, R32). -/
theorem fitsAcc_of_natAbs_le_one {cfg : Config} (hl : cfg.legal = true) {d : Int} (hd : d.natAbs ≤ 1) :
    fitsAcc cfg d = true := by
  obtain ⟨-, -, -, hw⟩ := legal_iff.1 hl
  have hpow : (2 : Int) ^ 1 ≤ 2 ^ (cfg.accW - 1) := pow_le_pow_right₀ (by norm_num) (by omega)
  rw [fitsAcc_iff]
  omega

/-- R121: an ACC in its slot, with the sum in range, adds its direction. -/
theorem accStep_fits {dir : DirBits} (he : samplerEnabled s = true) (hd : dir ≠ 0b10#2)
    (hf : fitsAcc s.cfg (s.acc + dirValue dir) = true) :
    accStep dir s = .next (passSlot .dispatcher (s.setAcc (s.acc + dirValue dir))) := by
  rw [accStep, samplerStep_enabled he, accumulate_fits hd hf]
  rfl

/-- R121 under ASYNC, for the two stimuli that tick. -/
theorem execTick_async {i : Instr} {d : Int} (hi : (i = .accPlus ∧ d = 1) ∨ (i = .accMinus ∧ d = -1))
    (h : s.cfg.sched = .async) (hr : ready s = true) (hf : fitsAcc s.cfg (s.acc + d) = true) :
    exec i s = .next (s.setAcc (s.acc + d)) := by
  have he := samplerEnabled_async h hr
  have hslot : passSlot .dispatcher (s.setAcc (s.acc + d)) = s.setAcc (s.acc + d) :=
    passSlot_async (s := s.setAcc (s.acc + d)) h _
  obtain ⟨rfl, rfl⟩ | ⟨rfl, rfl⟩ := hi
  · exact (accStep_fits (dir := 0b01#2) he (by decide) hf).trans (congrArg _ hslot)
  · exact (accStep_fits (dir := 0b11#2) he (by decide) hf).trans (congrArg _ hslot)

/-! ### The step of a pending request -/

/-- R82, R192(e): with no reserved word pending, a step is what the first request's instruction makes of it. -/
theorem step_of_request {r : RequestWord} {rest : List RequestWord} {i : Instr} (hl : s.cfg.legal = true)
    (hn : Safety.noRefusal s) (hp : s.program = r :: rest) (hi : decodeRequest s.cfg.mode r = .ok i) :
    step s = requestOutcome i s (exec i (s.setProgram rest)) := by
  have hnone : programRefusal s.cfg.mode (r :: rest) = none := hp ▸ hn
  simp only [step, runStep, inRun_legal hl, hp, hnone, requestStep, hi]

end Sys2Proof.Machine

section
open Sys2Proof Sys2Proof.Machine Sys2Proof.Safety

/-- Settles O51: a step is at most one effect on a prepared state and then the Transport's turn (`step_effect`),
and each of the three keeps flush placement. -/
theorem stepKeepsFlushPlacement : Obligations.StepKeepsFlushPlacement := by
  intro s t hs h
  obtain ⟨s₀, u, hprep, hu, rfl⟩ := step_effect h
  have h₀ : FlushInv s₀ := hs.prepared hprep
  obtain rfl | hu := hu
  · exact h₀.transportTurn
  · exact (h₀.effect hu).transportTurn

/-- Settles O17: SAMPLE and RESET leave the pins' phase in `prev_phase`, where SAMPLE finds no change. -/
theorem sampleIsIdempotent : Obligations.SampleIsIdempotent := by
  intro s t hasync h hf
  have hcfg : t.cfg = s.cfg := h.elim (fun h => (exec_effect h).cfg_eq) fun h => (exec_effect h).cfg_eq
  have hlegal : s.cfg.legal = true := h.elim execSample_legal execReset_legal
  have hphase : t.prevPhase = phaseOf t.pinA t.pinB :=
    h.elim (fun h => execSample_prevPhase h hf) execReset_prevPhase
  exact execSample_of_prevPhase_eq (hcfg ▸ hasync) (ready_iff.2 ⟨hcfg ▸ hlegal, hf⟩) hphase

/-- Settles O24: both orders run, the tick after the drain because one tick fits every legal width. -/
theorem tickAndDrainCommuteWithoutLoss : Obligations.TickAndDrainCommuteWithoutLoss := by
  intro s i d hi hl hf hasync hd hfits
  have hr : ready s = true := ready_iff.2 ⟨hl, hf⟩
  have hone : d.natAbs ≤ 1 := by omega
  have htick : fitsAcc s.cfg (0 + d) = true := by simpa using fitsAcc_of_natAbs_le_one hl hone
  constructor
  · exact runAll_pair (execTick_async hi hasync hr hfits) (execDrain_async hasync hr hd)
  · refine (runAll_pair (execDrain_async hasync hr hd) (execTick_async hi hasync hr htick)).trans ?_
    simp [State.setAcc, State.setTrace, reportDrain]

/-- Settles O6: the step is `requestOutcome` of the first request (`step_of_request`), which the statement writes
out for each answer of the instruction. -/
theorem stepRunsDecodedRequest : Obligations.StepRunsDecodedRequest := by
  intro s r rest i hl hn hp hi
  rw [step_of_request hl hn hp hi]
  cases exec i (s.setProgram rest) with
  | next t => rfl
  | fault f => cases f <;> rfl
  | refused x => rfl

end

/-! ## Words and the instructions they stand for -/

namespace Sys2Proof

/-! ### Bytes and fields of a word -/

@[simp] theorem stimOp_append (op arg : BitVec 4) : stimOp (op ++ arg) = op :=
  BitVec.extractLsb'_append_eq_left

@[simp] theorem stimArg_append (op arg : BitVec 4) : stimArg (op ++ arg) = arg :=
  BitVec.extractLsb'_append_eq_right

theorem stimOp_append_stimArg (w : Byte) : stimOp w ++ stimArg w = w :=
  BitVec.extractLsb'_append_extractLsb'

@[simp] theorem statusByte_high (c : BitVec 4) : (statusByte c).extractLsb' 4 4 = 0xB#4 :=
  BitVec.extractLsb'_append_eq_left

@[simp] theorem statusByte_low (c : BitVec 4) : (statusByte c).extractLsb' 0 4 = c :=
  BitVec.extractLsb'_append_eq_right

/-- A byte with the high nibble of a message's m1 is the status byte of its low nibble (R77). -/
theorem statusByte_of_high {b : Byte} (h : b.extractLsb' 4 4 = 0xB#4) : statusByte (b.extractLsb' 0 4) = b := by
  rw [statusByte, ← h]
  exact BitVec.extractLsb'_append_extractLsb'

@[simp] theorem unpackMessage_packMessage (m : Message) : unpackMessage (packMessage m) = m := by
  obtain ⟨b0, b1, b2, b3⟩ := m
  have h0 : (b0 ++ b1 ++ b2 ++ b3).extractLsb' 24 8 = b0 := by
    rw [BitVec.extractLsb'_append_eq_of_le (by decide), BitVec.extractLsb'_append_eq_of_le (by decide)]
    exact BitVec.extractLsb'_append_eq_left
  have h1 : (b0 ++ b1 ++ b2 ++ b3).extractLsb' 16 8 = b1 := by
    rw [BitVec.extractLsb'_append_eq_of_le (by decide), BitVec.extractLsb'_append_eq_of_le (by decide)]
    exact BitVec.extractLsb'_append_eq_right
  have h2 : (b0 ++ b1 ++ b2 ++ b3).extractLsb' 8 8 = b2 := by
    rw [BitVec.extractLsb'_append_eq_of_le (by decide)]
    exact BitVec.extractLsb'_append_eq_right
  have h3 : (b0 ++ b1 ++ b2 ++ b3).extractLsb' 0 8 = b3 := BitVec.extractLsb'_append_eq_right
  simp only [unpackMessage, packMessage, h0, h1, h2, h3]

@[simp] theorem packMessage_unpackMessage (w : BitVec 32) : packMessage (unpackMessage w) = w := by
  have h01 : w.extractLsb' 24 8 ++ w.extractLsb' 16 8 = w.extractLsb' 16 16 :=
    BitVec.extractLsb'_append_extractLsb'_eq_extractLsb' rfl
  have h02 : w.extractLsb' 16 16 ++ w.extractLsb' 8 8 = w.extractLsb' 8 24 :=
    BitVec.extractLsb'_append_extractLsb'_eq_extractLsb' rfl
  simp only [packMessage, unpackMessage, h01, h02]
  exact BitVec.extractLsb'_append_extractLsb'

/-! ### Messages -/

/-- A row's message has the bytes all messages share exactly where its controller byte is one (R76). -/
@[simp] theorem messageFrameOk_rowMessage (c : BitVec 4) (n v : Byte) :
    messageFrameOk (rowMessage c n v) = dataByteOk n := by
  simp [messageFrameOk, rowMessage]

/-- A message with the shared bytes is a row's message (R76, R77). -/
theorem rowMessage_of_messageFrameOk {m : Message} (h : messageFrameOk m = true) :
    rowMessage (m.m1.extractLsb' 0 4) m.m2 m.m3 = m := by
  simp only [messageFrameOk, Bool.and_eq_true, decide_eq_true_iff] at h
  obtain ⟨⟨h0, h1⟩, -⟩ := h
  rw [rowMessage, statusByte_of_high h1, ← h0]

@[simp] theorem unpackMessage_messageWord (c : BitVec 4) (n v : Byte) :
    unpackMessage (messageWord c n v) = rowMessage c n v := unpackMessage_packMessage _

@[simp] theorem rowMessage_m1 (c : BitVec 4) (n v : Byte) : (rowMessage c n v).m1 = statusByte c := rfl
@[simp] theorem rowMessage_m2 (c : BitVec 4) (n v : Byte) : (rowMessage c n v).m2 = n := rfl
@[simp] theorem rowMessage_m3 (c : BitVec 4) (n v : Byte) : (rowMessage c n v).m3 = v := rfl

theorem decodeMidi_absolute {c : BitVec 4} {n v : Byte} (hn : dataByteOk n = true) (hv : dataByteOk v = true) :
    decodeMidi .absolute (messageWord c n v) = .ok (.msgAbs c n v) := by
  simp [decodeMidi, hn, hv]

theorem decodeMidi_relative_plus {c : BitVec 4} {n : Byte} (hn : dataByteOk n = true) :
    decodeMidi .relative (messageWord c n 0x01#8) = .ok (.msgRelPlus c n) := by
  have hv : dataByteOk 0x01#8 = true := by decide
  simp [decodeMidi, hn, hv]

theorem decodeMidi_relative_minus {c : BitVec 4} {n : Byte} (hn : dataByteOk n = true) :
    decodeMidi .relative (messageWord c n 0x7F#8) = .ok (.msgRelMinus c n) := by
  have hv : dataByteOk 0x7F#8 = true := by decide
  simp [decodeMidi, hn, hv]

/-! ### Every word that decodes is the word of its instruction -/

/-- The word of a well-formed instruction whose row applies under the policy (R85, R91). -/
def IsWordOf (m : Mode) (r : RequestWord) (i : Instr) : Prop :=
  encode i = r ∧ i.wf = true ∧ i.appliesUnder m = true

variable {m : Mode} {i : Instr}

theorem decodeMidi_isWordOf {w : BitVec 32} (h : decodeMidi m w = .ok i) : IsWordOf m (.midi w) i := by
  simp only [decodeMidi] at h
  split at h
  · rename_i hok
    obtain ⟨hframe, hv⟩ := Bool.and_eq_true_iff.1 hok
    have hn : dataByteOk (unpackMessage w).m2 = true := (Bool.and_eq_true_iff.1 hframe).2
    have hw : messageWord ((unpackMessage w).m1.extractLsb' 0 4) (unpackMessage w).m2 (unpackMessage w).m3 = w := by
      rw [messageWord, rowMessage_of_messageFrameOk hframe, packMessage_unpackMessage]
    cases m with
    | absolute =>
      cases h
      exact ⟨congrArg _ hw, by rw [Instr.wf, hn, hv]; rfl, rfl⟩
    | relative =>
      simp only at h
      split at h
      · rename_i hplus
        cases h
        exact ⟨congrArg _ (hplus ▸ hw), hn, rfl⟩
      · split at h
        · rename_i hminus
          cases h
          exact ⟨congrArg _ (hminus ▸ hw), hn, rfl⟩
        · cases h
  · cases h

theorem plainStim_ok {arg : BitVec 4} {j : Instr} (h : plainStim arg j = .ok i) : arg = 0x0#4 ∧ i = j := by
  unfold plainStim at h
  split at h
  · exact ⟨‹_›, by cases h; rfl⟩
  · cases h

theorem pinsStim_isWordOf {arg : BitVec 4} (h : pinsStim arg = .ok i) : IsWordOf m (.stim (0x1#4 ++ arg)) i := by
  have hword : ∀ x : BitVec 4, x.extractLsb' 2 2 = 0#2 →
      0b000100#6 ++ x.extractLsb' 1 1 ++ x.extractLsb' 0 1 = 0x1#4 ++ x := by decide
  unfold pinsStim at h
  split at h
  · cases h
    exact ⟨congrArg _ (hword arg ‹_›), rfl, rfl⟩
  · cases h

theorem accStim_isWordOf {arg : BitVec 4} (h : accStim arg = .ok i) : IsWordOf m (.stim (0x3#4 ++ arg)) i := by
  unfold accStim at h
  split_ifs at h with hplus hminus hzero
  · cases h; subst hplus; exact ⟨rfl, rfl, rfl⟩
  · cases h; subst hminus; exact ⟨rfl, rfl, rfl⟩
  · cases h; subst hzero; exact ⟨rfl, rfl, rfl⟩

theorem plainStim_isWordOf {op arg : BitVec 4} {j : Instr} (h : plainStim arg j = .ok i)
    (hj : IsWordOf m (.stim (op ++ 0x0#4)) j) : IsWordOf m (.stim (op ++ arg)) i := by
  obtain ⟨rfl, rfl⟩ := plainStim_ok h
  exact hj

theorem decodeStim_isWordOf {w : Byte} (h : decodeStim w = .ok i) : IsWordOf m (.stim w) i := by
  rw [← stimOp_append_stimArg w]
  unfold decodeStim at h
  split_ifs at h with hop hop hop hop hop hop hop hop <;> rw [hop]
  · exact pinsStim_isWordOf h
  · exact plainStim_isWordOf h ⟨rfl, rfl, rfl⟩
  · exact accStim_isWordOf h
  all_goals exact plainStim_isWordOf h ⟨rfl, rfl, rfl⟩

/-- R75: a transition code is the word of its row. -/
theorem decodeTransition_isWordOf (c : TransitionCode) : IsWordOf m (.transition c) (decodeTransition c) := by
  unfold IsWordOf
  revert c
  cases m with
  | absolute => decide
  | relative => decide

/-! ### Reserved stimulus words (R85) -/

theorem plainStim_of_ne {arg : BitVec 4} (h : arg ≠ 0x0#4) (j : Instr) :
    plainStim arg j = .error .reservedStimulus := if_neg h

/-- The stimulus words of R85, by op and operand. -/
def ReservedStim (op arg : BitVec 4) : Prop :=
  op = 0x0#4 ∨ (0x8#4 ≤ op ∧ op ≤ 0xE#4) ∨
    (op = 0x1#4 ∧ arg.extractLsb' 2 2 ≠ 0b00#2) ∨
    (op = 0x3#4 ∧ arg ≠ 0b0000#4 ∧ arg ≠ 0b0001#4 ∧ arg ≠ 0b1111#4) ∨
    (op ≠ 0x1#4 ∧ op ≠ 0x3#4 ∧ arg ≠ 0b0000#4)

theorem decodeStim_reserved {op arg : BitVec 4} (h : ReservedStim op arg) :
    decodeStim (op ++ arg) = .error .reservedStimulus := by
  rw [decodeStim, stimOp_append, stimArg_append]
  obtain rfl | ⟨hlo, hhi⟩ | ⟨rfl, hpins⟩ | ⟨rfl, hzero, hplus, hminus⟩ | ⟨hpins, hacc, harg⟩ := h
  · rfl
  · have hop : op ≠ 0x1#4 ∧ op ≠ 0x2#4 ∧ op ≠ 0x3#4 ∧ op ≠ 0x4#4 ∧ op ≠ 0x5#4 ∧ op ≠ 0x6#4 ∧ op ≠ 0x7#4 ∧
        op ≠ 0xF#4 := by
      revert op; decide
    simp only [hop, if_false]
  · exact if_neg hpins
  · simp [accStim, hzero, hplus, hminus]
  · simp only [plainStim_of_ne harg, hpins, hacc, if_false, ite_self]

end Sys2Proof

namespace Sys2Proof.Machine

variable {s : State}

/-! ### Refusals of a program, and a loaded word -/

/-- R192(e): the first word without an instruction refuses the program, whatever stands after it. -/
theorem programRefusal_of_error {m : Mode} {pre post : List RequestWord} {r : RequestWord} {e : DecodeError}
    (hpre : ∀ x ∈ pre, ∃ i, decodeRequest m x = .ok i) (hr : decodeRequest m r = .error e) :
    programRefusal m (pre ++ r :: post) = some (refusalOf e) := by
  induction pre with
  | nil => simp [programRefusal, hr]
  | cons x xs ih =>
    obtain ⟨⟨i, hi⟩, hxs⟩ := List.forall_mem_cons.1 hpre
    simpa [programRefusal, hi] using ih hxs

theorem step_of_programRefusal {x : Refusal} (hl : s.cfg.legal = true)
    (h : programRefusal s.cfg.mode s.program = some x) : step s = .refused x := by
  simp only [step, runStep, inRun_legal hl, h]

/-- Only a message word is read by the policy, and for one the load sets the policy its row is read under (log 9). -/
theorem decodeRequest_modeForRequest {mode : Mode} {r : RequestWord} {i : Instr}
    (h : decodeRequest (tableMode r) r = .ok i) : decodeRequest (modeForRequest mode r) r = .ok i := by
  cases r with
  | midi w => exact h
  | stim w => exact h
  | transition c => exact h

theorem decodeTableWord_some {nbits w : Nat} {i : Instr} (h : decodeTableWord nbits w = some i) :
    ∃ r, tableRequest nbits w = some r ∧ decodeRequest (tableMode r) r = .ok i := by
  unfold decodeTableWord at h
  split at h
  · cases h
  · rename_i r hr
    refine ⟨r, hr, ?_⟩
    cases hd : decodeRequest (tableMode r) r with
    | ok j => rw [hd] at h; cases h; rfl
    | error e => rw [hd] at h; cases h

theorem withFetchWord_of_tableRequest {nbits w : Nat} {r : RequestWord} (h : tableRequest nbits w = some r) :
    s.withFetchWord nbits w = (s.setProgram [r]).setCfg { s.cfg with mode := modeForRequest s.cfg.mode r } := by
  simp only [State.withFetchWord, loadTableWord, h]

/-! ### DECODE of a transition code -/

theorem decodeStep_legal (hl : s.cfg.legal = true) (p c : Phase) :
    decodeStep p c s = .next (s.setDecodeOut (decodeDirection p c)) := inRun_legal hl

end Sys2Proof.Machine

section
open Sys2Proof Sys2Proof.Machine Sys2Proof.Safety

/-- Settles O1, row by row: a message row by what `decodeMidi` reads from its own word under its policy. -/
theorem decodeOfEncode : Obligations.DecodeOfEncode := by
  intro i m hwf happ
  cases i with
  | msgRelPlus c n =>
    obtain rfl : m = .relative := of_decide_eq_true happ
    exact decodeMidi_relative_plus hwf
  | msgRelMinus c n =>
    obtain rfl : m = .relative := of_decide_eq_true happ
    exact decodeMidi_relative_minus hwf
  | msgAbs c n v =>
    obtain rfl : m = .absolute := of_decide_eq_true happ
    obtain ⟨hn, hv⟩ := Bool.and_eq_true_iff.1 hwf
    exact decodeMidi_absolute hn hv
  | pins a b =>
    have hpins : ∀ a b : BitVec 1, decodeStim (0b000100#6 ++ a ++ b) = .ok (.pins a b) := by decide
    exact hpins a b
  | _ => rfl

/-- Settles O2, format by format. -/
theorem encodeOfDecode : Obligations.EncodeOfDecode := by
  intro m r i h
  cases r with
  | stim w => exact decodeStim_isWordOf h
  | transition c => cases h; exact decodeTransition_isWordOf c
  | midi w => exact decodeMidi_isWordOf h

/-- Settles O3: each of the nine words is decoded by the tables. -/
theorem writtenWordsDecode : Obligations.WrittenWordsDecode := by
  unfold Obligations.WrittenWordsDecode
  decide

/-- Settles O4: a word of R85 has no instruction, and the first such word refuses the whole program. -/
theorem reservedStimulusRefused : Obligations.ReservedStimulusRefused := by
  intro s pre post op arg hl hp hpre hop
  have hr : decodeRequest s.cfg.mode (.stim (op ++ arg)) = .error .reservedStimulus := decodeStim_reserved hop
  refine step_of_programRefusal hl ?_
  rw [hp]
  exact programRefusal_of_error hpre hr

/-- Settles O7: the loaded word is a program of one request, which decodes under the policy the load sets, so the
step is that of any other request. -/
theorem loadedWordRuns : Obligations.LoadedWordRuns := by
  intro s nbits w i hl hi
  obtain ⟨r, hr, hd⟩ := decodeTableWord_some hi
  rw [withFetchWord_of_tableRequest hr]
  have hd' : decodeRequest (modeForRequest s.cfg.mode r) r = .ok i := decodeRequest_modeForRequest hd
  refine stepRunsDecodedRequest _ r [] i hl ?_ rfl hd'
  simp [noRefusal, programRefusal, hd']

/-- Settles O11: each row is the DECODE of its own code, and the table gives its direction. -/
theorem decodeRowsAnswerTheirDirection : Obligations.DecodeRowsAnswerTheirDirection := by
  intro s hl
  and_intros <;> exact decodeStep_legal hl _ _

end

/-! ## Messages, dispatch cycles and the direction table -/

namespace Sys2Proof.Machine

variable {s t : State} {cfg : Config} {mode : Mode}

/-! ### The bytes of a message -/

/-- R77: `0xB0 | channel` is the status byte of the channel. -/
theorem or_channel (c : BitVec 4) : 0xB0#8 ||| BitVec.ofNat 8 c.toNat = statusByte c := by
  revert c; decide

theorem buildMessage_of_fields {c : BitVec 4} {n : Byte} (hc : cfg.channel = c.toNat) (hn : cfg.cc = n.toNat)
    (v : Byte) : buildMessage cfg v = rowMessage c n v := by
  rw [buildMessage, rowMessage, hc, hn, or_channel, BitVec.ofNat_toNat, BitVec.setWidth_eq]

/-- The numbers of a legal configuration are fields of a message row (R32, R76). -/
theorem exists_fields_of_legal (hl : cfg.legal = true) :
    ∃ (c : BitVec 4) (n : Byte), cfg.channel = c.toNat ∧ cfg.cc = n.toNat := by
  obtain ⟨hch, hcc, -, -⟩ := legal_iff.1 hl
  exact ⟨.ofNatLT cfg.channel (by omega), .ofNatLT cfg.cc (by omega), rfl, rfl⟩

theorem rowMessage_inj {c c' : BitVec 4} {n n' v v' : Byte} :
    rowMessage c n v = rowMessage c' n' v' ↔ c = c' ∧ n = n' ∧ v = v' := by
  constructor
  · intro h
    have hc : statusByte c = statusByte c' := congrArg Message.m1 h
    refine ⟨?_, congrArg Message.m2 h, congrArg Message.m3 h⟩
    rw [← statusByte_low c, hc, statusByte_low]
  · rintro ⟨rfl, rfl, rfl⟩; rfl

/-- In a legal configuration the built message names its channel, controller and value (R76, R148). -/
theorem buildMessage_eq_rowMessage_iff (hl : cfg.legal = true) {c : BitVec 4} {n v x : Byte} :
    buildMessage cfg x = rowMessage c n v ↔ cfg.channel = c.toNat ∧ cfg.cc = n.toNat ∧ x = v := by
  obtain ⟨c', n', hc, hn⟩ := exists_fields_of_legal hl
  rw [buildMessage_of_fields hc hn, rowMessage_inj, hc, hn, BitVec.toNat_inj, BitVec.toNat_inj]

/-! ### The value byte -/

theorem messageValue_relative (h : s.cfg.mode = .relative) : messageValue s = tickByte s.rdir := by
  simp [messageValue, h]

theorem messageValue_absolute (h : s.cfg.mode = .absolute) : messageValue s = s.ctrlValue.zeroExtend 8 := by
  simp [messageValue, h]

theorem tickByte_eq_plus_iff {r : BitVec 1} : tickByte r = 0x01#8 ↔ r = 0#1 := by
  revert r; decide

theorem tickByte_eq_minus_iff {r : BitVec 1} : tickByte r = 0x7F#8 ↔ r = 1#1 := by
  revert r; decide

@[simp] theorem toNat_zeroExtend_byte (x : BitVec 7) : (x.zeroExtend 8).toNat = x.toNat :=
  BitVec.toNat_setWidth_of_le (by decide)

/-- R78: EMIT sends a value its policy produces. -/
theorem policyValue_messageValue (s : State) : Safety.policyValue s.cfg.mode (messageValue s) := by
  cases h : s.cfg.mode with
  | relative =>
    rw [messageValue_relative h, Safety.policyValue]
    by_cases hr : s.rdir = 0#1 <;> simp [tickByte, hr]
  | absolute =>
    rw [messageValue_absolute h, Safety.policyValue, toNat_zeroExtend_byte]
    have hlt := s.ctrlValue.isLt
    omega

/-- R86: bit 7 of a value the policy produces is clear. -/
theorem policyValue_lt {v : Byte} (h : Safety.policyValue mode v) : v < 0x80#8 := by
  cases mode with
  | relative => obtain rfl | rfl := h <;> decide
  | absolute => exact BitVec.lt_def.2 (Nat.lt_succ_of_le h)

/-! ### EMIT and the message rows -/

/-- The state after a step that sends the message `m`, but for `last_emitted` (R145). -/
def sentState (m : Message) (s : State) : State := { s with
  rem := s.rem - 1
  dispState := if s.rem = 1 then .flush else .emit
  trace := s.trace ++ [.emit m]
  queue := if Config.transportAccepts s.draws then s.queue ++ [m] else s.queue
  draws := s.draws + 1 }

theorem emitOne_dispState_of_emit (hd : s.dispState = .emit) (h1 : 1 ≤ s.rem) :
    (emitOne s).dispState = if s.rem = 1 then .flush else .emit := by
  have hlast : s.rem - 1 = 0 ↔ s.rem = 1 := by omega
  simp [hd, hlast]

theorem emitOne_relative (hm : s.cfg.mode = .relative) (hd : s.dispState = .emit) (h1 : 1 ≤ s.rem) :
    emitOne s = sentState (buildMessage s.cfg (tickByte s.rdir)) s := by
  have hdisp := emitOne_dispState_of_emit hd h1
  rw [← messageValue_relative hm]
  ext1
  case h6 => exact emitOne_lastEmitted_relative hm
  case h7 => exact hdisp
  all_goals simp [sentState]

theorem emitOne_absolute (hm : s.cfg.mode = .absolute) (hd : s.dispState = .emit) (h1 : 1 ≤ s.rem) :
    emitOne s = (sentState (buildMessage s.cfg (s.ctrlValue.zeroExtend 8)) s).setLastEmitted s.ctrlValue := by
  have hdisp := emitOne_dispState_of_emit hd h1
  rw [← messageValue_absolute hm]
  ext1
  case h6 => exact emitOne_lastEmitted_absolute hm
  case h7 => exact hdisp
  all_goals simp [sentState]

theorem execEmit_enabled (h : emitEnabled s = true) : exec .emit s = .next (emitOne s) := emitStep_enabled h rfl

theorem sendsMessage_rowMessage_iff (hl : s.cfg.legal = true) {c : BitVec 4} {n v : Byte} :
    sendsMessage s mode (rowMessage c n v) = true ↔
      s.cfg.mode = mode ∧ s.cfg.channel = c.toNat ∧ s.cfg.cc = n.toNat ∧ messageValue s = v := by
  simp [sendsMessage, buildMessage_eq_rowMessage_iff hl]

theorem emitEnabled_legal (h : emitEnabled s = true) : s.cfg.legal = true :=
  (ready_iff.1 (emitEnabled_iff.1 h).1).1

/-- A message row is EMIT where it names the message EMIT would send (log 7). -/
theorem messageStep_enabled {c : BitVec 4} {n v : Byte} (he : emitEnabled s = true) (hm : s.cfg.mode = mode)
    (hc : s.cfg.channel = c.toNat) (hn : s.cfg.cc = n.toNat) (hv : messageValue s = v) :
    messageStep mode (rowMessage c n v) s = .next (emitOne s) :=
  emitStep_enabled he ((sendsMessage_rowMessage_iff (emitEnabled_legal he)).2 ⟨hm, hc, hn, hv⟩)

/-- A message row that names another message than EMIT would send has no step (log 7). -/
theorem messageStep_other {c : BitVec 4} {n v : Byte} (he : emitEnabled s = true)
    (h : ¬(s.cfg.mode = mode ∧ s.cfg.channel = c.toNat ∧ s.cfg.cc = n.toNat ∧ messageValue s = v)) :
    messageStep mode (rowMessage c n v) s = .fault .stuckMessage := by
  obtain ⟨hr, hd, h1⟩ := emitEnabled_iff.1 he
  rw [← sendsMessage_rowMessage_iff (emitEnabled_legal he)] at h
  rw [messageStep, emitStep, dispatcherStep_enabled hr hd nofun, if_neg (by omega), if_neg h]

/-- R154: a Dispatcher operation in a control state that does not enable it has no step. -/
theorem dispatcherStep_stuck {op : OpName} {want : DispState} {k : Result} (hr : ready s = true)
    (hw : s.dispState ≠ want) (hn : s.dispState ≠ .reserved) :
    dispatcherStep op want s k = .fault (.stuckDispState op) := by
  rw [dispatcherStep, agentStep_ready hr, if_neg hn, if_neg hw]

theorem emitStep_stuck {may : Bool} (hr : ready s = true) (hd : s.dispState = .idle ∨ s.dispState = .flush) :
    emitStep may s = .fault (.stuckDispState .emit) := by
  obtain hd | hd := hd <;> exact dispatcherStep_stuck hr (by simp [hd]) (by simp [hd])

theorem execFlush_stuck (hr : ready s = true) (hd : s.dispState = .emit) :
    exec .flush s = .fault (.stuckDispState .flush) :=
  dispatcherStep_stuck hr (by simp [hd]) (by simp [hd])

/-! ### What DISPATCH schedules -/

/-- Under ASYNC the Dispatcher always has its slot (R196). -/
theorem dispatcherSlot_of_polled (h : s.cfg.sched = .polled → s.pollSlot = some .dispatcher) :
    dispatcherSlot s = true := by
  rw [dispatcherSlot_iff]
  cases hsched : s.cfg.sched with
  | async => exact .inl rfl
  | polled => exact .inr (h hsched)

theorem execDispatch_enabled (h : dispatchEnabled s = true) : exec .dispatch s = .next (dispatchCycle s) :=
  idleStep_enabled h

/-- R140, R157: DISPATCH schedules no message and stays as it is, or some and goes to EMIT. -/
theorem dispatchCycle_scheduled (s : State) :
    (Safety.scheduledMessages s = 0 ∧ (dispatchCycle s).dispState = s.dispState ∧
      (dispatchCycle s).rem = s.rem) ∨
    (0 < Safety.scheduledMessages s ∧ (dispatchCycle s).dispState = .emit ∧
      (dispatchCycle s).rem = Safety.scheduledMessages s) := by
  unfold Safety.scheduledMessages
  obtain ⟨h0, h⟩ | ⟨h0, hm, h⟩ | ⟨h0, hm, hv, h⟩ | ⟨h0, hm, hv, h⟩ := dispatchCycle_cases s
  · left; simp [h, h0]
  · right; simp [h, h0, hm, schedule]
  · left; simp [h, h0, hm, hv]
  · right; simp [h, h0, hm, hv, schedule]

end Sys2Proof.Machine

namespace Sys2Proof.Safety

open Sys2Proof.Machine

variable {s t : State}

/-! ### Message format, effect by effect -/

@[simp] theorem emittedOf_append (es fs : List Event) : emittedOf (es ++ fs) = emittedOf es ++ emittedOf fs := by
  induction es with
  | nil => rfl
  | cons e es ih => cases e <;> simp [emittedOf, ih]

/-- R145: EMIT is the one effect that emits a message, the one the state calls for. -/
theorem emittedOf_trace_of_effect (h : Effect s t) : emittedOf t.trace = emittedOf s.trace ∨
    emittedOf t.trace = emittedOf s.trace ++ [buildMessage s.cfg (messageValue s)] := by
  cases h with
  | emitted he => right; simp [emittedOf]
  | raised info hr => left; simp [emittedOf]
  | pinned a b hr => exact .inl rfl
  | drained he => left; simp [emittedOf]
  | flushed he => left; simp [emittedOf]
  | _ => left; simp

theorem MessageInv.congr (hs : MessageInv s) (hcfg : t.cfg = s.cfg) (htrace : t.trace = s.trace) :
    MessageInv t := by
  unfold MessageInv
  rw [hcfg, htrace]
  exact hs

theorem MessageInv.prepared (hs : MessageInv s) (h : Prepared s t) : MessageInv t := by
  obtain ⟨p, n, rfl⟩ := h
  exact hs.congr rfl rfl

theorem MessageInv.effect (hs : MessageInv s) (h : Effect s t) : MessageInv t := by
  intro m hm
  rw [h.cfg_eq]
  obtain heq | heq := emittedOf_trace_of_effect h <;> rw [heq] at hm
  · exact hs m hm
  · obtain hm | hm := List.mem_append.1 hm
    · exact hs m hm
    · exact ⟨_, policyValue_messageValue s, List.mem_singleton.1 hm⟩

theorem MessageInv.transportTurn (hs : MessageInv s) : MessageInv (transportTurn s) :=
  hs.congr transportTurn_cfg transportTurn_trace

/-! ### Runs of a dispatch cycle -/

theorem runAll_append_of_next {is js : List Instr} (h : runAll is s = .next t) :
    runAll (is ++ js) s = runAll js t := by
  induction is generalizing s with
  | nil => cases h; rfl
  | cons i is ih =>
    cases he : exec i s with
    | next u =>
      rw [runAll_cons_of_next he] at h
      rw [List.cons_append, runAll_cons_of_next he, ih h]
    | fault f => simp [runAll, he] at h
    | refused x => simp [runAll, he] at h

theorem runAll_cons_of_fault {i : Instr} {is : List Instr} {f : Fault} (h : exec i s = .fault f) :
    runAll (i :: is) s = .fault f := by
  simp [runAll, h]

/-- A state inside a dispatch cycle: `rem` messages are left, and EMIT or FLUSH is next (R38, R145). -/
structure InCycle (s : State) : Prop where
  ready : ready s = true
  drained : s.acc = 0
  next : s.dispState = if s.rem = 0 then .flush else .emit

theorem InCycle.emitEnabled (hs : InCycle s) (h : 1 ≤ s.rem) : emitEnabled s = true :=
  emitEnabled_iff.2 ⟨hs.ready, by rw [hs.next, if_neg (by omega)], h⟩

theorem ready_of_eq (h : Machine.ready s = true) (hcfg : t.cfg = s.cfg) (hf : t.fault = s.fault) :
    Machine.ready t = true := by
  rw [ready_iff] at h ⊢
  rwa [hcfg, hf]

theorem InCycle.emitOne (hs : InCycle s) (h : 1 ≤ s.rem) : InCycle (emitOne s) where
  ready := ready_of_eq hs.ready emitOne_cfg emitOne_fault
  drained := emitOne_acc.trans hs.drained
  next := by
    rw [emitOne_dispState, emitOne_rem, hs.next, if_neg (show s.rem ≠ 0 by omega)]

/-- As many EMITs as are asked for run, up to the number of messages left (R140). -/
theorem InCycle.runAll_emits {k : Nat} (hs : InCycle s) (hk : k ≤ s.rem) :
    ∃ t, runAll (List.replicate k .emit) s = .next t ∧ InCycle t ∧ t.rem = s.rem - k := by
  induction k generalizing s with
  | zero => exact ⟨s, rfl, hs, rfl⟩
  | succ k ih =>
    have h1 : 1 ≤ s.rem := by omega
    obtain ⟨t, hrun, ht, hrem⟩ := ih (hs.emitOne h1) (by rw [emitOne_rem]; omega)
    refine ⟨t, ?_, ht, ?_⟩
    · rw [List.replicate_succ, runAll_cons_of_next (execEmit_enabled (hs.emitEnabled h1)), hrun]
    · rw [hrem, emitOne_rem]; omega

/-- R89: with exactly the messages left, the EMITs and the FLUSH complete the cycle. -/
theorem InCycle.runAll_complete (hs : InCycle s) :
    ∃ t, runAll (List.replicate s.rem .emit ++ [.flush]) s = .next t ∧
      t.dispState = .idle ∧ t.rem = 0 ∧ t.acc = 0 ∧ t.fault = none := by
  obtain ⟨t, hrun, ht, hrem⟩ := hs.runAll_emits le_rfl
  have h0 : t.rem = 0 := by omega
  have hflush : exec .flush t = .next (flushCycle t) :=
    execFlush_enabled (flushEnabled_iff.2 ⟨ht.ready, by rw [ht.next, if_pos h0]⟩)
  refine ⟨flushCycle t, ?_, flushCycle_dispState, flushCycle_rem.trans h0, flushCycle_acc.trans ht.drained,
    flushCycle_fault.trans (ready_iff.1 ht.ready).2⟩
  rw [runAll_append_of_next hrun, runAll_cons_of_next hflush, runAll]

/-- R89: with too many EMITs the first one beyond the messages left is stuck. -/
theorem InCycle.runAll_tooMany {n : Nat} {is : List Instr} (hs : InCycle s) (hn : s.rem < n) :
    runAll (List.replicate n .emit ++ is) s = .fault (.stuckDispState .emit) := by
  obtain ⟨k, rfl⟩ := Nat.exists_eq_add_of_lt hn
  obtain ⟨t, hrun, ht, hrem⟩ := hs.runAll_emits le_rfl
  have h0 : t.rem = 0 := by omega
  have hstuck : exec .emit t = .fault (.stuckDispState .emit) :=
    emitStep_stuck ht.ready (.inr (by rw [ht.next, if_pos h0]))
  rw [Nat.add_assoc, List.replicate_add, List.append_assoc, runAll_append_of_next hrun, List.replicate_succ,
    List.cons_append, runAll_cons_of_fault hstuck]

/-- R89: with too few EMITs the FLUSH is stuck. -/
theorem InCycle.runAll_tooFew {n : Nat} (hs : InCycle s) (hn : n < s.rem) :
    runAll (List.replicate n .emit ++ [.flush]) s = .fault (.stuckDispState .flush) := by
  obtain ⟨t, hrun, ht, hrem⟩ := hs.runAll_emits hn.le
  have hd : t.dispState = .emit := by rw [ht.next, if_neg (by omega)]
  rw [runAll_append_of_next hrun, runAll_cons_of_fault (execFlush_stuck ht.ready hd)]

/-- DISPATCH with messages to send begins a cycle. -/
theorem InCycle.of_dispatch (hr : Machine.ready s = true) (hd : (dispatchCycle s).dispState = .emit)
    (hrem : 0 < (dispatchCycle s).rem) : InCycle (dispatchCycle s) where
  ready := ready_of_eq hr dispatchCycle_cfg dispatchCycle_fault
  drained := dispatchCycle_acc
  next := by rw [hd, if_neg (by omega)]

theorem cycleExpansion_of_pos {n : Nat} (h : 0 < n) :
    cycleExpansion n = .dispatch :: (List.replicate n .emit ++ [.flush]) := by
  rw [cycleExpansion, if_pos (Nat.succ_le_of_lt h)]

/-! ### The words of a list of instructions -/

theorem assembleInstrs_append (is js : List Instr) :
    assembleInstrs (is ++ js) = assembleInstrs is ++ assembleInstrs js := by
  induction is with
  | nil => rfl
  | cons i is ih => simp [assembleInstrs, ih]

theorem assembleInstrs_replicate_emit (n : Nat) :
    assembleInstrs (List.replicate n .emit) = List.replicate n 0x60#8 := by
  induction n with
  | zero => rfl
  | succ n ih => rw [List.replicate_succ, assembleInstrs, ih]; rfl

/-! ### The direction table and the Gray cycles (R74) -/

theorem dirtab_eq_ite (code : TransitionCode) : dirtab code =
    if code = 0b0001#4 ∨ code = 0b0111#4 ∨ code = 0b1110#4 ∨ code = 0b1000#4 then 0b01#2
    else if code = 0b0010#4 ∨ code = 0b0100#4 ∨ code = 0b1101#4 ∨ code = 0b1011#4 then 0b11#2
    else 0b00#2 := by
  revert code; decide

/-- The classes by the bits that changed: none, both, or exactly one. -/
theorem transitionClass_iff (p c : Phase) : (transitionClass p c = .noChange ↔ c = p) ∧
    (transitionClass p c = .twoBitJump ↔ c = p ^^^ 0b11#2) ∧
    (transitionClass p c = .validStep ↔ c = p ^^^ 0b01#2 ∨ c = p ^^^ 0b10#2) := by
  revert p c; decide

theorem tickOf_eq_zero_iff (p c : Phase) : tickOf p c = 0 ↔ transitionClass p c ≠ .validStep := by
  revert p c; decide

theorem tickOf_eq_one_iff (p c : Phase) : tickOf p c = 1 ↔ c = grayNext p := by
  revert p c; decide

theorem tickOf_eq_neg_one_iff (p c : Phase) : tickOf p c = -1 ↔ c = grayPrev p := by
  revert p c; decide

theorem grayNext_isPeriodicPt (p : Phase) : Function.IsPeriodicPt grayNext 4 p := by
  unfold Function.IsPeriodicPt Function.IsFixedPt
  revert p; decide

theorem grayPrev_isPeriodicPt (p : Phase) : Function.IsPeriodicPt grayPrev 4 p := by
  unfold Function.IsPeriodicPt Function.IsFixedPt
  revert p; decide

theorem tickOf_grayNext_iterate (r : Fin 4) (p : Phase) :
    tickOf p (grayNext^[r] p) = if r.val = 1 then 1 else if r.val = 3 then -1 else 0 := by
  revert r p; decide

theorem tickOf_grayPrev_iterate (r : Fin 4) (p : Phase) :
    tickOf p (grayPrev^[r] p) = if r.val = 1 then -1 else if r.val = 3 then 1 else 0 := by
  revert r p; decide

end Sys2Proof.Safety

section
open Sys2Proof Sys2Proof.Machine Sys2Proof.Safety

/-- Settles O52: a step is at most one effect on a prepared state and then the Transport's turn (`step_effect`),
and the one effect that emits builds its message from the configuration. -/
theorem stepKeepsMessageFormat : Obligations.StepKeepsMessageFormat := by
  intro s t hs h
  obtain ⟨s₀, u, hprep, hu, rfl⟩ := step_effect h
  have h₀ : MessageInv s₀ := hs.prepared hprep
  obtain rfl | hu := hu
  · exact h₀.transportTurn
  · exact (h₀.effect hu).transportTurn

/-- Settles O13: both cycles have period 4, which leaves four numbers of steps. -/
theorem missedSamplesCountModuloFour : Obligations.MissedSamplesCountModuloFour := by
  intro k p
  have hk : k % 4 < 4 := Nat.mod_lt k (by decide)
  rw [← (grayNext_isPeriodicPt p).iterate_mod_apply k, ← (grayPrev_isPeriodicPt p).iterate_mod_apply k]
  exact ⟨tickOf_grayNext_iterate ⟨k % 4, hk⟩ p, tickOf_grayPrev_iterate ⟨k % 4, hk⟩ p⟩

/-- Settles O27: EMIT is `emitOne`, which under each policy is the state of the statement. -/
theorem emitSendsOneMessage : Obligations.EmitSendsOneMessage := by
  intro s hl hf hd h1
  have he : emitEnabled s = true := emitEnabled_iff.2 ⟨ready_iff.2 ⟨hl, hf⟩, hd, h1⟩
  rw [execEmit_enabled he]
  exact ⟨fun hm => congrArg _ (emitOne_relative hm hd h1), fun hm => congrArg _ (emitOne_absolute hm hd h1)⟩

/-- Settles O28: each row names the message EMIT would send, so it is that EMIT. -/
theorem messageRowsSendTheirMessage : Obligations.MessageRowsSendTheirMessage := by
  intro s c n hl hf hd h1 hc hn
  have he : emitEnabled s = true := emitEnabled_iff.2 ⟨ready_iff.2 ⟨hl, hf⟩, hd, h1⟩
  have hn' : s.cfg.cc = (n.zeroExtend 8).toNat := by rw [hn, toNat_zeroExtend_byte]
  have hbuild := buildMessage_of_fields hc hn'
  refine ⟨fun hm hr => ?plus, fun hm hr => ?minus, fun hm => ?abs⟩
  case plus =>
    have hv : tickByte s.rdir = 0x01#8 := tickByte_eq_plus_iff.2 hr
    refine (messageStep_enabled he hm hc hn' ((messageValue_relative hm).trans hv)).trans ?_
    rw [emitOne_relative hm hd h1, hbuild, hv]
    rfl
  case minus =>
    have hv : tickByte s.rdir = 0x7F#8 := tickByte_eq_minus_iff.2 hr
    refine (messageStep_enabled he hm hc hn' ((messageValue_relative hm).trans hv)).trans ?_
    rw [emitOne_relative hm hd h1, hbuild, hv]
    rfl
  case abs =>
    refine (messageStep_enabled he hm hc hn' (messageValue_absolute hm)).trans ?_
    rw [emitOne_absolute hm hd h1, hbuild]
    rfl

/-- Settles O29: a row that differs from EMIT's message in one place is not that message. -/
theorem otherMessageRowsAreStuck : Obligations.OtherMessageRowsAreStuck := by
  intro s c n v hl hf
  have hr : ready s = true := ready_iff.2 ⟨hl, hf⟩
  refine ⟨fun hd h1 => ?_, fun hd => ⟨emitStep_stuck hr hd, emitStep_stuck hr hd, emitStep_stuck hr hd⟩⟩
  have he : emitEnabled s = true := emitEnabled_iff.2 ⟨hr, hd, h1⟩
  refine ⟨fun h => messageStep_other he ?plus, fun h => messageStep_other he ?minus,
    fun h => messageStep_other he ?abs⟩
  case plus =>
    rintro ⟨hm, hc, hn, hv⟩
    rw [messageValue_relative hm, tickByte_eq_plus_iff] at hv
    simp [hm, hc, hn, hv] at h
  case minus =>
    rintro ⟨hm, hc, hn, hv⟩
    rw [messageValue_relative hm, tickByte_eq_minus_iff] at hv
    simp [hm, hc, hn, hv] at h
  case abs =>
    rintro ⟨hm, hc, hn, rfl⟩
    rw [messageValue_absolute hm, toNat_zeroExtend_byte] at h
    simp [hm, hc, hn] at h

/-- Settles O33: the words of a list of instructions are those of its parts. -/
theorem pseudoInstructionsAssemble : Obligations.PseudoInstructionsAssemble := by
  refine ⟨fun a b => rfl, fun n => ?_⟩
  rw [cycleExpansion, assembleInstrs, assembleInstrs_append, assembleInstrs_replicate_emit,
    apply_ite assembleInstrs]
  rfl

/-- Settles O34: DISPATCH schedules nothing and stays in IDLE, or begins a cycle (`InCycle`), of which the EMITs
and the FLUSH complete, or are stuck where their number is not the one scheduled. -/
theorem cycleNeedsTheScheduledCount : Obligations.CycleNeedsTheScheduledCount := by
  intro s n hl hf hd hslot hrem
  have hr : ready s = true := ready_iff.2 ⟨hl, hf⟩
  have hdispatch : exec .dispatch s = .next (dispatchCycle s) :=
    execDispatch_enabled (dispatchEnabled_iff.2 ⟨hr, hd, dispatcherSlot_of_polled hslot⟩)
  obtain ⟨h0, hd', hrem'⟩ | ⟨hpos, hd', hrem'⟩ := dispatchCycle_scheduled s
  · have hidle : (dispatchCycle s).dispState = .idle := hd'.trans hd
    rw [h0]
    refine ⟨?complete, fun hn => ?tooMany, fun hn => absurd hn.2 n.not_lt_zero⟩
    case complete =>
      rintro rfl
      exact ⟨dispatchCycle s, runAll_cons_of_next hdispatch, hidle, hrem'.trans hrem, dispatchCycle_acc,
        dispatchCycle_fault.trans hf⟩
    case tooMany =>
      obtain ⟨k, rfl⟩ := Nat.exists_eq_add_one.2 hn
      rw [cycleExpansion, runAll_cons_of_next hdispatch, List.replicate_succ, List.cons_append]
      exact runAll_cons_of_fault (emitStep_stuck (ready_of_eq hr dispatchCycle_cfg dispatchCycle_fault) (.inl hidle))
  · have hcycle : InCycle (dispatchCycle s) := .of_dispatch hr hd' (hrem' ▸ hpos)
    rw [← hrem'] at hpos ⊢
    refine ⟨?complete, fun hn => ?tooMany, fun ⟨hn, hlt⟩ => ?tooFew⟩
    case complete =>
      rintro rfl
      rw [cycleExpansion_of_pos hpos, runAll_cons_of_next hdispatch]
      exact hcycle.runAll_complete
    case tooMany =>
      rw [cycleExpansion_of_pos (hpos.trans hn), runAll_cons_of_next hdispatch]
      exact hcycle.runAll_tooMany hn
    case tooFew =>
      rw [cycleExpansion_of_pos hn, runAll_cons_of_next hdispatch]
      exact hcycle.runAll_tooFew hlt

/-- Settles O55: in a legal configuration the built message is the row of its channel and controller. -/
theorem messageBytesAreNeverReserved : Obligations.MessageBytesAreNeverReserved := by
  intro cfg v hl hv
  obtain ⟨-, hcc, -, -⟩ := legal_iff.1 hl
  obtain ⟨c, n, hc, hn⟩ := exists_fields_of_legal hl
  have hlow : n < 0x80#8 := BitVec.lt_def.2 (Nat.lt_succ_of_le (hn ▸ hcc))
  rw [buildMessage_of_fields hc hn, hc, hn]
  exact ⟨rfl, statusByte_high c, congrArg _ (statusByte_low c), rfl, hlow, rfl, policyValue_lt hv⟩

/-- Settles O10: the table, its classes and its cycles, each by its own law. -/
theorem directionTable : Obligations.DirectionTable :=
  ⟨dirtab_eq_ite, rfl, rfl, rfl, fun _ _ => rfl, transitionClass_iff, tickOf_eq_zero_iff, tickOf_eq_one_iff,
    tickOf_eq_neg_one_iff, rfl, rfl, rfl, rfl, rfl, rfl, rfl, rfl⟩

end

/-! ## PINS and SAMPLE in every case, and lists of samples -/

namespace Sys2Proof.Machine

variable {s : State}

/-! ### PINS and one SAMPLE -/

theorem execPins_ready (h : ready s = true) (a b : BitVec 1) : exec (.pins a b) s = .next (setPins a b s) :=
  agentStep_ready h

/-- Under ASYNC the Sampler always has its slot (R196). -/
theorem samplerSlot_of_polled (h : s.cfg.sched = .polled → s.pollSlot = some .sampler) :
    samplerSlot s = true := by
  rw [samplerSlot_iff]
  cases hsched : s.cfg.sched with
  | async => exact .inl rfl
  | polled => exact .inr (h hsched)

theorem samplerStep_outOfSlot {op : OpName} {k : Result} (hr : ready s = true) (hs : samplerSlot s = false) :
    samplerStep op s k = .fault (.stuckPollSlot op) := by
  simp [samplerStep, agentStep_ready hr, hs]

theorem dirValue_eq_zero_iff {d : DirBits} : dirValue d = 0 ↔ d = 0b00#2 := by
  revert d; decide

/-- R103: the transitions without a tick are those that change no channel or both. -/
theorem decodeDirection_eq_zero_iff {p c : Phase} :
    decodeDirection p c = 0b00#2 ↔ c = p ∨ c = p ^^^ 0b11#2 := by
  revert p c; decide

/-- R102: a SAMPLE in its slot completes if there is no tick or the sum is in range. -/
theorem execSample_completes (he : samplerEnabled s = true)
    (h : tickOf s.prevPhase (phaseOf s.pinA s.pinB) = 0 ∨
      fitsAcc s.cfg (s.acc + tickOf s.prevPhase (phaseOf s.pinA s.pinB)) = true) :
    exec .sample s = .next (passSlot .dispatcher
      ((s.setAcc (s.acc + tickOf s.prevPhase (phaseOf s.pinA s.pinB))).setPrevPhase
        (phaseOf s.pinA s.pinB))) := by
  obtain h0 | hfits := h
  · rw [execSample_of_noTick he (dirValue_eq_zero_iff.1 h0), h0, Int.add_zero]
    rfl
  · exact execSample_enabled he hfits

/-- R102: a SAMPLE whose tick leaves the range raises, and writes nothing of its own. -/
theorem execSample_overflow (he : samplerEnabled s = true)
    (h0 : tickOf s.prevPhase (phaseOf s.pinA s.pinB) ≠ 0)
    (hf : fitsAcc s.cfg (s.acc + tickOf s.prevPhase (phaseOf s.pinA s.pinB)) = false) :
    exec .sample s = .next
      (raise (.accOverflow .sample s.acc (tickOf s.prevPhase (phaseOf s.pinA s.pinB))) s) := by
  have hd : decodeDirection s.prevPhase (phaseOf s.pinA s.pinB) ≠ 0b00#2 := mt dirValue_eq_zero_iff.2 h0
  refine (samplerStep_enabled he).trans ?_
  simp only [sampleOnce, sampleTick, if_neg hd, accumulate_overflow (decodeDirection_ne _ _) hf]
  rfl

theorem passSlot_eq_ite (p : PollSlot) (s : State) :
    passSlot p s = { s with pollSlot := if s.cfg.sched = .polled then some p else s.pollSlot } := by
  rw [passSlot_eq, slotAfter_eq_ite]
  rfl

/-! ### One phase sampled under ASYNC -/

theorem phaseOf_extractLsb' (c : Phase) : phaseOf (c.extractLsb' 1 1) (c.extractLsb' 0 1) = c :=
  BitVec.extractLsb'_append_extractLsb'

/-- R102 under ASYNC, where SAMPLE passes no slot. -/
theorem execSample_async {c : Phase} (hr : ready s = true) (h : s.cfg.sched = .async)
    (hc : phaseOf s.pinA s.pinB = c) (hf : fitsAcc s.cfg (s.acc + tickOf s.prevPhase c) = true) :
    exec .sample s = .next ((s.setAcc (s.acc + tickOf s.prevPhase c)).setPrevPhase c) := by
  subst hc
  rw [execSample_enabled (samplerEnabled_async h hr) hf, passSlot_async (by simpa using h)]

/-- The state after the pins were set to `c` and sampled under ASYNC (R102, R106). -/
def sampledAt (c : Phase) (s : State) : State :=
  { s with
    pinA := c.extractLsb' 1 1
    pinB := c.extractLsb' 0 1
    prevPhase := c
    acc := s.acc + tickOf s.prevPhase c }

theorem execSample_setPins_async {c : Phase} (hr : ready s = true) (h : s.cfg.sched = .async)
    (hf : fitsAcc s.cfg (s.acc + tickOf s.prevPhase c) = true) :
    exec .sample (setPins (c.extractLsb' 1 1) (c.extractLsb' 0 1) s) = .next (sampledAt c s) :=
  execSample_async (s := setPins _ _ s) hr h (phaseOf_extractLsb' c) hf

end Sys2Proof.Machine

namespace Sys2Proof.Safety

open Sys2Proof.Machine

variable {s : State}

theorem runAll_sampleAll_cons {c : Phase} {cs : List Phase} (hr : ready s = true) (h : s.cfg.sched = .async)
    (hf : fitsAcc s.cfg (s.acc + tickOf s.prevPhase c) = true) :
    runAll (sampleAll (c :: cs)) s = runAll (sampleAll cs) (sampledAt c s) := by
  rw [sampleAll, runAll_cons_of_next (execPins_ready hr _ _),
    runAll_cons_of_next (execSample_setPins_async hr h hf)]

/-! ### The direction of a transition and of its images -/

/-- R105 (a). -/
theorem tickOf_reverse (p c : Phase) : tickOf c p = -tickOf p c := by
  revert p c; decide

/-- R105 (b). -/
theorem tickOf_invert (p c : Phase) : tickOf (p ^^^ 3#2) (c ^^^ 3#2) = tickOf p c := by
  revert p c; decide

/-- R105 (c). -/
theorem tickOf_swapPhase (p c : Phase) : tickOf (swapPhase p) (swapPhase c) = -tickOf p c := by
  revert p c; decide

/-- R105 (d): a move along the Gray cycle is decoded as itself. -/
theorem tickOf_grayMove {d : Int} (hd : d = 1 ∨ d = -1 ∨ d = 0) (p : Phase) : tickOf p (grayMove d p) = d := by
  obtain rfl | rfl | rfl := hd
  · exact (tickOf_eq_one_iff p _).2 rfl
  · exact (tickOf_eq_neg_one_iff p _).2 rfl
  · exact dirValue_eq_zero (decodeDirection_self p)

theorem ticksOf_grayPath {moves : List Int} (h : ∀ d ∈ moves, d = 1 ∨ d = -1 ∨ d = 0) (p : Phase) :
    ticksOf p (grayPath p moves) = moves := by
  induction moves generalizing p with
  | nil => rfl
  | cons d ds ih =>
    obtain ⟨hd, hds⟩ := List.forall_mem_cons.1 h
    rw [grayPath, ticksOf, tickOf_grayMove hd, ih hds]

end Sys2Proof.Safety

section
open Sys2Proof Sys2Proof.Machine Sys2Proof.Safety

/-- Settles O12: each symmetry by its own law. -/
theorem dirtabSymmetries : Obligations.DirtabSymmetries :=
  fun p c => ⟨tickOf_reverse p c, tickOf_invert p c, tickOf_swapPhase p c⟩

/-- Settles O14: PINS is `setPins`, the state of the statement. -/
theorem pinsWritesBothPins : Obligations.PinsWritesBothPins :=
  fun _ a b hl hf => execPins_ready (ready_iff.2 ⟨hl, hf⟩) a b

/-- Settles O15: in its slot SAMPLE completes or raises as the exact sum says; out of it there is no step. -/
theorem sampleDecodesAndAccumulates : Obligations.SampleDecodesAndAccumulates := by
  intro s hl hf d
  have hr : ready s = true := ready_iff.2 ⟨hl, hf⟩
  rw [← fitsAcc_iff]
  refine ⟨fun hslot => ?inSlot, fun ⟨hp, hne⟩ => ?outOfSlot⟩
  case inSlot =>
    have he : samplerEnabled s = true := samplerEnabled_iff.2 ⟨hr, samplerSlot_of_polled hslot⟩
    refine ⟨fun h => ?_, fun ⟨h0, hover⟩ => execSample_overflow he h0 (Bool.eq_false_iff.2 hover)⟩
    exact (execSample_completes he h).trans (congrArg _ (passSlot_eq_ite _ _))
  case outOfSlot => exact samplerStep_outOfSlot hr (by simp [samplerSlot, hp, hne])

/-- Settles O16: the transitions named have no direction, so ACCUMULATE is not called. -/
theorem invalidTransitionOnlyMovesPrevPhase : Obligations.InvalidTransitionOnlyMovesPrevPhase := by
  intro s hl hf hslot hinvalid
  have he : samplerEnabled s = true :=
    samplerEnabled_iff.2 ⟨ready_iff.2 ⟨hl, hf⟩, samplerSlot_of_polled hslot⟩
  exact (execSample_of_noTick he (decodeDirection_eq_zero_iff.2 hinvalid)).trans
    (congrArg _ (passSlot_eq_ite _ _))

/-- Settles O18, by induction on the phases: the first is sampled (`sampledAt`), the rest run from there. -/
theorem sampledDirectionsSum : Obligations.SampledDirectionsSum := by
  intro phases
  induction phases with
  | nil => exact fun s _ _ _ _ _ => ⟨s.pinA, s.pinB, by simp [sampleAll, runAll, lastPhase, ticksOf, sumOf]⟩
  | cons c cs ih =>
    intro s hl hf hasync ⟨hfits, hrange⟩ _
    obtain ⟨a, b, hrun⟩ := ih (sampledAt c s) hl hf hasync hrange hfits
    refine ⟨a, b, ?_⟩
    rw [runAll_sampleAll_cons (ready_iff.2 ⟨hl, hf⟩) hasync hfits, hrun]
    simp [sampledAt, lastPhase, ticksOf, sumOf, Int.add_assoc]

/-- Settles O19: the directions of a Gray path are its moves, which O18 sums. -/
theorem graySampledCountIsExact : Obligations.GraySampledCountIsExact := by
  intro moves s hmoves hl hf hasync hrange hfits
  have hticks := ticksOf_grayPath hmoves s.prevPhase
  obtain ⟨a, b, hrun⟩ := sampledDirectionsSum _ s hl hf hasync (hticks.symm ▸ hrange) hfits
  exact ⟨_, hrun, congrArg (s.acc + sumOf ·) hticks, hf, rfl⟩

end

/-! ## ACC and the standalone DRAIN in every case, and lists of ACC -/

namespace Sys2Proof.Machine

variable {s : State} {cfg : Config} {i : Instr} {d : Int}

/-! ### The accumulator's range -/

/-- `s(ACC_W)` is an interval (R23). -/
theorem fitsAcc_of_le_of_le {x y z : Int} (hx : fitsAcc cfg x = true) (hz : fitsAcc cfg z = true) (hxy : x ≤ y)
    (hyz : y ≤ z) : fitsAcc cfg y = true := by
  rw [fitsAcc_iff] at hx hz ⊢
  exact ⟨hx.1.trans hxy, hyz.trans hz.2⟩

/-- `ACC_W` is at least 11 (R32), so every legal width holds what is below `2 ^ 10` in magnitude. -/
theorem fitsAcc_of_natAbs_lt (hl : cfg.legal = true) {x : Int} (hx : x.natAbs < 1024) : fitsAcc cfg x = true := by
  obtain ⟨-, -, -, hw⟩ := legal_iff.1 hl
  have hpow : (2 : Int) ^ 10 ≤ 2 ^ (cfg.accW - 1) := pow_le_pow_right₀ (by norm_num) (by omega)
  rw [fitsAcc_iff]
  omega

/-! ### One ACC -/

/-- The instruction is the ACC stimulus of this direction (R83, R121). -/
def IsAccRow (i : Instr) (d : Int) : Prop :=
  (i = .accPlus ∧ d = 1) ∨ (i = .accMinus ∧ d = -1) ∨ (i = .accZero ∧ d = 0)

/-- An ACC stimulus is the ACC step of a direction pattern of its value, never the reserved `10` (R73, R83). -/
theorem IsAccRow.exec_eq_accStep (hi : IsAccRow i d) :
    ∃ dir : DirBits, dir ≠ 0b10#2 ∧ dirValue dir = d ∧ ∀ s, exec i s = accStep dir s := by
  obtain ⟨rfl, rfl⟩ | ⟨rfl, rfl⟩ | ⟨rfl, rfl⟩ := hi
  · exact ⟨0b01#2, by decide, rfl, fun _ => rfl⟩
  · exact ⟨0b11#2, by decide, rfl, fun _ => rfl⟩
  · exact ⟨0b00#2, by decide, rfl, fun _ => rfl⟩

/-- R121: an ACC in its slot, with the sum out of range, raises and writes nothing of its own. -/
theorem accStep_overflow {dir : DirBits} (he : samplerEnabled s = true) (hd : dir ≠ 0b10#2)
    (hf : fitsAcc s.cfg (s.acc + dirValue dir) = false) :
    accStep dir s = .next (raise (.accOverflow .acc s.acc (dirValue dir)) s) := by
  rw [accStep, samplerStep_enabled he, accumulate_overflow hd hf]
  rfl

theorem IsAccRow.exec_fits (hi : IsAccRow i d) (he : samplerEnabled s = true)
    (hf : fitsAcc s.cfg (s.acc + d) = true) :
    exec i s = .next (passSlot .dispatcher (s.setAcc (s.acc + d))) := by
  obtain ⟨dir, hdir, rfl, hexec⟩ := hi.exec_eq_accStep
  exact (hexec s).trans (accStep_fits he hdir hf)

theorem IsAccRow.exec_overflow (hi : IsAccRow i d) (he : samplerEnabled s = true)
    (hf : fitsAcc s.cfg (s.acc + d) = false) :
    exec i s = .next (raise (.accOverflow .acc s.acc d) s) := by
  obtain ⟨dir, hdir, rfl, hexec⟩ := hi.exec_eq_accStep
  exact (hexec s).trans (accStep_overflow he hdir hf)

theorem IsAccRow.exec_outOfSlot (hi : IsAccRow i d) (hr : ready s = true) (hs : samplerSlot s = false) :
    exec i s = .fault (.stuckPollSlot .acc) := by
  obtain ⟨dir, -, -, hexec⟩ := hi.exec_eq_accStep
  exact (hexec s).trans (samplerStep_outOfSlot hr hs)

/-- R121 under ASYNC, where ACC passes no slot. -/
theorem IsAccRow.exec_async (hi : IsAccRow i d) (hr : ready s = true) (h : s.cfg.sched = .async)
    (hf : fitsAcc s.cfg (s.acc + d) = true) : exec i s = .next (s.setAcc (s.acc + d)) := by
  rw [hi.exec_fits (samplerEnabled_async h hr) hf, passSlot_async (by simpa using h)]

theorem isAccRow_accInstr (hd : d = 1 ∨ d = -1 ∨ d = 0) : IsAccRow (Safety.accInstr d) d := by
  obtain rfl | rfl | rfl := hd
  · exact .inl ⟨rfl, rfl⟩
  · exact .inr (.inl ⟨rfl, rfl⟩)
  · exact .inr (.inr ⟨rfl, rfl⟩)

/-! ### One standalone DRAIN -/

theorem execDrain_enabled (h : dispatchEnabled s = true) : exec .drain s = .next (drainReport s) :=
  idleStep_enabled h

theorem execDrain_stuck (hr : ready s = true) (hd : s.dispState = .emit ∨ s.dispState = .flush) :
    exec .drain s = .fault (.stuckDispState .drain) := by
  obtain hd | hd := hd <;> exact dispatcherStep_stuck hr (by simp [hd]) (by simp [hd])

end Sys2Proof.Machine

namespace Sys2Proof.Safety

open Sys2Proof.Machine

variable {s : State} {ds : List Int}

/-! ### Lists of ACC under ASYNC -/

theorem sumOf_eq_sum (ds : List Int) : sumOf ds = ds.sum := by
  induction ds with
  | nil => rfl
  | cons d ds ih => rw [sumOf, List.sum_cons, ih]

/-- R121, by induction on the stimuli: each adds its direction, and none faults while the sums stay in range. -/
theorem runAll_map_accInstr (hds : ∀ d ∈ ds, d = 1 ∨ d = -1 ∨ d = 0) (hr : ready s = true)
    (h : s.cfg.sched = .async) (hrange : staysInRange s.cfg s.acc ds) :
    runAll (ds.map accInstr) s = .next (s.setAcc (s.acc + sumOf ds)) := by
  induction ds generalizing s with
  | nil => simp [runAll, sumOf, State.setAcc]
  | cons d ds ih =>
    obtain ⟨hd, hds⟩ := List.forall_mem_cons.1 hds
    obtain ⟨hfits, hrange⟩ := hrange
    rw [List.map_cons, runAll_cons_of_next ((isAccRow_accInstr hd).exec_async hr h hfits),
      ih (s := s.setAcc (s.acc + d)) hds hr h hrange, sumOf, ← Int.add_assoc]
    rfl

/-- The running sums lie between the start less all the decrements and the start plus all the increments, in
whatever order they come. -/
theorem staysInRange_of_count {cfg : Config} {x : Int} (hds : ∀ d ∈ ds, d = 1 ∨ d = -1 ∨ d = 0)
    (hlo : fitsAcc cfg (x - ds.count (-1)) = true) (hhi : fitsAcc cfg (x + ds.count 1) = true) :
    staysInRange cfg x ds := by
  induction ds generalizing x with
  | nil => trivial
  | cons d ds ih =>
    obtain ⟨hd, hds⟩ := List.forall_mem_cons.1 hds
    have hups : ((d :: ds).count 1 : Int) = ds.count 1 + max d 0 := by
      obtain rfl | rfl | rfl := hd <;> simp
    have hdowns : ((d :: ds).count (-1) : Int) = ds.count (-1) + max (-d) 0 := by
      obtain rfl | rfl | rfl := hd <;> simp
    have hlo' : fitsAcc cfg (x + d - ds.count (-1)) = true :=
      fitsAcc_of_le_of_le hlo hhi (by omega) (by omega)
    have hhi' : fitsAcc cfg (x + d + ds.count 1) = true := fitsAcc_of_le_of_le hlo hhi (by omega) (by omega)
    exact ⟨fitsAcc_of_le_of_le hlo' hhi' (by omega) (by omega), ih hds hlo' hhi'⟩

/-! ### As many increments as decrements, in any order (R127) -/

section
variable {n : Nat} (hperm : ds.Perm (List.replicate n 1 ++ List.replicate n (-1)))
include hperm

theorem eq_one_or_neg_one_of_perm : ∀ d ∈ ds, d = 1 ∨ d = -1 := by
  intro d hmem
  rw [hperm.mem_iff, List.mem_append] at hmem
  exact hmem.imp List.eq_of_mem_replicate List.eq_of_mem_replicate

theorem count_one_of_perm : ds.count 1 = n := by
  simp [hperm.count_eq, List.count_replicate]

theorem count_neg_one_of_perm : ds.count (-1) = n := by
  simp [hperm.count_eq, List.count_replicate]

theorem sumOf_eq_zero_of_perm : sumOf ds = 0 := by
  simp [sumOf_eq_sum, hperm.sum_eq]

end

end Sys2Proof.Safety

section
open Sys2Proof Sys2Proof.Machine Sys2Proof.Safety

/-- Settles O20: in its slot ACC adds or raises as the exact sum says; out of it there is no step. -/
theorem accAddsExactlyOrFaults : Obligations.AccAddsExactlyOrFaults := by
  intro s i d hl hf (hi : IsAccRow i d)
  have hr : ready s = true := ready_iff.2 ⟨hl, hf⟩
  rw [← fitsAcc_iff]
  refine ⟨fun hslot => ?inSlot, fun ⟨hp, hne⟩ => ?outOfSlot⟩
  case inSlot =>
    have he : samplerEnabled s = true := samplerEnabled_iff.2 ⟨hr, samplerSlot_of_polled hslot⟩
    refine ⟨fun hfits => ?_, fun hover => hi.exec_overflow he (Bool.eq_false_iff.2 hover)⟩
    exact (hi.exec_fits he hfits).trans (congrArg _ (passSlot_eq_ite _ _))
  case outOfSlot => exact hi.exec_outOfSlot hr (by simp [samplerSlot, hp, hne])

/-- Settles O21: DRAIN is `drainReport` where it is enabled, and stuck in the other control states or out of its
slot. -/
theorem standaloneDrainReportsAndZeroes : Obligations.StandaloneDrainReportsAndZeroes := by
  intro s hl hf
  have hr : ready s = true := ready_iff.2 ⟨hl, hf⟩
  refine ⟨fun hd hslot => ?enabled, execDrain_stuck hr, fun hd ⟨hp, hne⟩ => ?outOfSlot⟩
  case enabled =>
    rw [execDrain_enabled (dispatchEnabled_iff.2 ⟨hr, hd, dispatcherSlot_of_polled hslot⟩)]
    exact congrArg _ (passSlot_eq_ite _ _)
  case outOfSlot => exact idleStep_outOfSlot hr hd (by simp [dispatcherSlot, hp, hne])

/-- Settles O22: the stimuli leave the exact sum in `acc` (`runAll_map_accInstr`), which DRAIN reports. -/
theorem drainReturnsExactSum : Obligations.DrainReturnsExactSum := by
  intro ds s hds hl hf hasync hd hrange _
  have hr : ready s = true := ready_iff.2 ⟨hl, hf⟩
  have hdrain := execDrain_async (s := s.setAcc (s.acc + sumOf ds)) hasync hr hd
  rw [runAll_append_of_next (runAll_map_accInstr hds hr hasync hrange), runAll_cons_of_next hdrain]
  rfl

/-- Settles O23: in any order the running sums stay within 1000 of 0, which every legal width holds, so O22 applies,
and the sum is that of the ordered list. -/
theorem thousandUpThousandDown : Obligations.ThousandUpThousandDown := by
  intro ds s hperm hl hf hasync hd hacc
  have hds : ∀ d ∈ ds, d = 1 ∨ d = -1 ∨ d = 0 := fun d hmem =>
    (eq_one_or_neg_one_of_perm hperm d hmem).imp_right .inl
  have hrange : staysInRange s.cfg s.acc ds := by
    apply staysInRange_of_count hds
    · rw [hacc, count_neg_one_of_perm hperm]
      exact fitsAcc_of_natAbs_lt hl (by decide)
    · rw [hacc, count_one_of_perm hperm]
      exact fitsAcc_of_natAbs_lt hl (by decide)
  have hfits : fitsAcc s.cfg s.acc = true := hacc ▸ fitsAcc_zero s.cfg
  rw [drainReturnsExactSum ds s hds hl hf hasync hd hrange hfits,
    sumOf_eq_zero_of_perm hperm, hacc, Int.add_zero, ← hacc]

end

/-! ## The dispatch cycle from end to end, and the clamp -/

namespace Sys2Proof.Machine

variable {s : State}

/-! ### The clamp, unit by unit -/

/-- R144: once a unit hits a bound, the units of the same sign after it keep the value there. -/
theorem clampUnits_eq {sgn : Int} (hsgn : sgn = 1 ∨ sgn = 0 ∨ sgn = -1) (n : Nat) {x : Int} (h0 : 0 ≤ x)
    (h127 : x ≤ 127) : clampUnits sgn n x = clampInt (x + sgn * n) 0 127 := by
  induction n generalizing x with
  | zero => simp only [clampUnits, clampInt]; omega
  | succ n ih =>
    have hunit : clampUnit sgn x = min (max (x + sgn) 0) 127 := rfl
    rw [clampUnits, ih (by omega) (by omega), hunit]
    simp only [clampInt]
    obtain rfl | rfl | rfl := hsgn <;> omega

/-! ### DISPATCH, one equation per case (R141) -/

theorem dispatchCycle_of_acc_eq_zero (h0 : s.acc = 0) : dispatchCycle s = passSlot .sampler s := by
  have hacc : s.setAcc 0 = s := by rw [← h0]; rfl
  simp only [dispatchCycle, drainAcc, h0, if_true, hacc]

theorem dispatchCycle_relative (h0 : s.acc ≠ 0) (hm : s.cfg.mode = .relative) : dispatchCycle s = { s with
    acc := 0
    rem := s.acc.natAbs
    rdir := if s.acc < 0 then 1#1 else 0#1
    dispState := .emit } := by
  simp only [dispatchCycle, drainAcc, if_neg h0, hm]
  rfl

theorem dispatchCycle_absolute_new (h0 : s.acc ≠ 0) (hm : s.cfg.mode = .absolute)
    (hv : clampedValue s.ctrlValue s.acc ≠ s.lastEmitted) : dispatchCycle s = { s with
    acc := 0
    ctrlValue := clampedValue s.ctrlValue s.acc
    rem := 1
    dispState := .emit } := by
  simp only [dispatchCycle, drainAcc, if_neg h0, hm]
  exact if_neg hv

theorem dispatchCycle_absolute_same (h0 : s.acc ≠ 0) (hm : s.cfg.mode = .absolute)
    (hv : clampedValue s.ctrlValue s.acc = s.lastEmitted) : dispatchCycle s =
    passSlot .sampler { s with
      acc := 0
      ctrlValue := clampedValue s.ctrlValue s.acc } := by
  simp only [dispatchCycle, drainAcc, if_neg h0, hm]
  exact if_pos hv

/-! ### The messages of a cycle -/

/-- EMIT leaves what its message is computed from: every EMIT of a cycle sends the same one (R145, R148). -/
@[simp] theorem messageValue_emitOne : messageValue (emitOne s) = messageValue s := by
  simp only [messageValue, emitOne_cfg, emitOne_rdir, emitOne_ctrlValue]

theorem emitOne_iterate_trace (k : Nat) (s : State) : (emitOne^[k] s).trace =
    s.trace ++ List.replicate k (.emit (buildMessage s.cfg (messageValue s))) := by
  induction k generalizing s with
  | zero => simp
  | succ k ih => simp [ih, List.replicate_succ]

/-- A field that one EMIT leaves alone, any number of EMITs leaves alone. -/
theorem iterate_emitOne_keeps {α : Type} {field : State → α} (h : ∀ s, field (emitOne s) = field s) (k : Nat)
    (s : State) : field (emitOne^[k] s) = field s := by
  induction k generalizing s with
  | zero => rfl
  | succ k ih => rw [Function.iterate_succ_apply, ih, h]

@[simp] theorem emitOne_iterate_cfg (k : Nat) : (emitOne^[k] s).cfg = s.cfg :=
  iterate_emitOne_keeps (field := State.cfg) (fun _ => emitOne_cfg) k s
@[simp] theorem emitOne_iterate_ctrlValue (k : Nat) : (emitOne^[k] s).ctrlValue = s.ctrlValue :=
  iterate_emitOne_keeps (field := State.ctrlValue) (fun _ => emitOne_ctrlValue) k s
@[simp] theorem emitOne_iterate_prevPhase (k : Nat) : (emitOne^[k] s).prevPhase = s.prevPhase :=
  iterate_emitOne_keeps (field := State.prevPhase) (fun _ => emitOne_prevPhase) k s

theorem emitOne_iterate_lastEmitted_relative (hm : s.cfg.mode = .relative) (k : Nat) :
    (emitOne^[k] s).lastEmitted = s.lastEmitted := by
  induction k with
  | zero => rfl
  | succ k ih => rw [Function.iterate_succ_apply', emitOne_lastEmitted_relative (by simpa using hm), ih]

theorem emitOne_iterate_lastEmitted_absolute (hm : s.cfg.mode = .absolute) {k : Nat} (hk : 0 < k) :
    (emitOne^[k] s).lastEmitted = s.ctrlValue := by
  obtain ⟨j, rfl⟩ := Nat.exists_eq_add_one.2 hk
  rw [Function.iterate_succ_apply', emitOne_lastEmitted_absolute (by simpa using hm), emitOne_iterate_ctrlValue]

end Sys2Proof.Machine

namespace Sys2Proof.Safety

open Sys2Proof.Machine

variable {s : State}

theorem InCycle.runAll_emits_eq {k : Nat} (hs : InCycle s) (hk : k ≤ s.rem) :
    runAll (List.replicate k .emit) s = .next (Machine.emitOne^[k] s) := by
  induction k generalizing s with
  | zero => rfl
  | succ k ih =>
    have h1 : 1 ≤ s.rem := by omega
    rw [List.replicate_succ, runAll_cons_of_next (execEmit_enabled (hs.emitEnabled h1)),
      ih (hs.emitOne h1) (by rw [emitOne_rem]; omega)]
    rfl

/-- The state in which a cycle ends: after an `emitOne` per message left, and the FLUSH. -/
theorem InCycle.eq_of_runAll_complete {t : State} (hs : InCycle s)
    (h : runAll (List.replicate s.rem .emit ++ [.flush]) s = .next t) :
    t = flushCycle (Machine.emitOne^[s.rem] s) := by
  obtain ⟨u, hrun, hu, hrem⟩ := hs.runAll_emits le_rfl
  obtain rfl : Machine.emitOne^[s.rem] s = u := by
    rw [hs.runAll_emits_eq le_rfl] at hrun
    cases hrun; rfl
  have hflush := execFlush_enabled (flushEnabled_iff.2 ⟨hu.ready, by rw [hu.next, if_pos (by omega)]⟩)
  rw [runAll_append_of_next hrun, runAll_cons_of_next hflush, runAll] at h
  cases h; rfl

/-- R140: a DISPATCH that schedules `n` messages, `n` EMITs and the FLUSH run through to IDLE. -/
theorem runAll_cycleExpansion {n : Nat} (he : dispatchEnabled s = true)
    (hd : (dispatchCycle s).dispState = .emit) (hrem : (dispatchCycle s).rem = n) (hn : 0 < n) :
    ∃ t, runAll (cycleExpansion n) s = .next t ∧ t = flushCycle (emitOne^[n] (dispatchCycle s)) ∧
      t.acc = 0 ∧ t.rem = 0 ∧ t.dispState = .idle ∧ t.fault = none := by
  subst hrem
  have hcycle : InCycle (dispatchCycle s) := .of_dispatch (dispatchEnabled_iff.1 he).1 hd hn
  obtain ⟨t, hrun, hidle, hrem, hacc, hfault⟩ := hcycle.runAll_complete
  refine ⟨t, ?_, hcycle.eq_of_runAll_complete hrun, hacc, hrem, hidle, hfault⟩
  rw [cycleExpansion_of_pos hn, runAll_cons_of_next (execDispatch_enabled he), hrun]

/-- The trace of a cycle: as many equal messages as were scheduled, then the flush event (R140, R150). -/
theorem trace_flushCycle_iterate (n : Nat) : (flushCycle (emitOne^[n] (dispatchCycle s))).trace =
    s.trace ++ List.replicate n (.emit (buildMessage s.cfg (messageValue (dispatchCycle s)))) ++ [.flush] := by
  rw [flushCycle_trace, emitOne_iterate_trace, dispatchCycle_trace, dispatchCycle_cfg]

end Sys2Proof.Safety

section
open Sys2Proof Sys2Proof.Machine Sys2Proof.Safety

/-- Settles O25: in its slot DISPATCH is `dispatchCycle`, one equation per case; out of it there is no step. -/
theorem dispatchDrainsAndSchedules : Obligations.DispatchDrainsAndSchedules := by
  intro s hl hf hd v ended
  have hr : ready s = true := ready_iff.2 ⟨hl, hf⟩
  refine ⟨fun hslot => ?inSlot, fun ⟨hp, hne⟩ => ?outOfSlot⟩
  case inSlot =>
    rw [execDispatch_enabled (dispatchEnabled_iff.2 ⟨hr, hd, dispatcherSlot_of_polled hslot⟩)]
    refine ⟨fun h0 => ?_, fun ⟨h0, hm⟩ => ?_, fun ⟨h0, hm, hv⟩ => ?_, fun ⟨h0, hm, hv⟩ => ?_⟩
    · rw [dispatchCycle_of_acc_eq_zero h0, passSlot_eq_ite]
    · rw [dispatchCycle_relative h0 hm]
    · exact congrArg _ (dispatchCycle_absolute_new h0 hm hv)
    · rw [dispatchCycle_absolute_same h0 hm hv, passSlot_eq_ite]
      rfl
  case outOfSlot => exact idleStep_outOfSlot hr hd (by simp [dispatcherSlot, hp, hne])

/-- Settles O26: the units of the magnitude of `d`, each of its sign, add up to `d`. -/
theorem clampEqualsUnitSteps : Obligations.ClampEqualsUnitSteps := by
  intro x d h0 h127
  rw [clampUnits_eq (Int.sign_trichotomy d) d.natAbs h0 h127, Int.sign_mul_natAbs]

/-- Settles O31: DISPATCH schedules one message per tick (`dispatchCycle_relative`), and the cycle runs through
(`runAll_cycleExpansion`). -/
theorem relativeCycleSendsOneMessagePerTick : Obligations.RelativeCycleSendsOneMessagePerTick := by
  intro s hl hf hd hm hslot h0
  have he : dispatchEnabled s = true :=
    dispatchEnabled_iff.2 ⟨ready_iff.2 ⟨hl, hf⟩, hd, dispatcherSlot_of_polled hslot⟩
  have hcycle := dispatchCycle_relative h0 hm
  have hm' : (dispatchCycle s).cfg.mode = .relative := by simpa using hm
  have hvalue : messageValue (dispatchCycle s) = if s.acc < 0 then 0x7F#8 else 0x01#8 := by
    rw [messageValue_relative hm', hcycle]
    by_cases hneg : s.acc < 0 <;> simp [tickByte, hneg]
  obtain ⟨t, hrun, rfl, hacc, hrem, hidle, hfault⟩ :=
    runAll_cycleExpansion he (by rw [hcycle]) (by rw [hcycle]) (Int.natAbs_pos.2 h0)
  refine ⟨_, hrun, ?trace, hacc, hrem, hidle, hfault, ?ctrl, ?last, by simp⟩
  case trace => rw [trace_flushCycle_iterate, hvalue]
  case ctrl => simp [dispatchCycle_ctrlValue_relative hm]
  case last => simp [emitOne_iterate_lastEmitted_relative hm']

/-- Settles O32: a value that is new is scheduled as one message, which the cycle sends; one that is not ends the
cycle with DISPATCH. -/
theorem absoluteCycleSendsAtMostOneMessage : Obligations.AbsoluteCycleSendsAtMostOneMessage := by
  intro s hl hf hd hm hslot h0 v
  have he : dispatchEnabled s = true :=
    dispatchEnabled_iff.2 ⟨ready_iff.2 ⟨hl, hf⟩, hd, dispatcherSlot_of_polled hslot⟩
  have hm' : (dispatchCycle s).cfg.mode = .absolute := by simpa using hm
  refine ⟨fun hv => ?new, fun hv => ?same⟩
  case new =>
    have hcycle := dispatchCycle_absolute_new h0 hm hv
    have hctrl : (dispatchCycle s).ctrlValue = v := by rw [hcycle]; rfl
    obtain ⟨t, hrun, rfl, hacc, hrem, hidle, hfault⟩ :=
      runAll_cycleExpansion he (by rw [hcycle]) (by rw [hcycle]) Nat.one_pos
    refine ⟨_, hrun, ?trace, hacc, hrem, hidle, hfault, ?ctrl, ?last⟩
    case trace =>
      rw [trace_flushCycle_iterate, messageValue_absolute hm', hctrl]
      simp
    case ctrl => rw [flushCycle_ctrlValue, emitOne_iterate_ctrlValue, hctrl]
    case last => rw [flushCycle_lastEmitted, emitOne_iterate_lastEmitted_absolute hm' Nat.one_pos, hctrl]
  case same =>
    have hctrl : (dispatchCycle s).ctrlValue = v := by
      rw [dispatchCycle_absolute_same h0 hm hv, passSlot_ctrlValue]
      rfl
    have hidle : (dispatchCycle s).dispState = .idle := by
      rw [dispatchCycle_absolute_same h0 hm hv, passSlot_dispState, hd]
    exact ⟨dispatchCycle s, runAll_cons_of_next (execDispatch_enabled he), dispatchCycle_trace, dispatchCycle_acc,
      hidle, dispatchCycle_fault.trans hf, hctrl, dispatchCycle_lastEmitted.trans hv.symm⟩

end

/-! ## Stops and faults, by the agent an operation belongs to -/

namespace Sys2Proof.Machine

variable {s t : State} {i : Instr} {op : OpName} {want : DispState} {k : Result} {c : FaultCode}

/-! ### Once a fault is recorded (R185) -/

/-- Every operation but DECODE belongs to an agent (R195), and begins with the agents' guard. -/
theorem exec_of_agentOf_ne_none (hi : agentOf i ≠ none) (s : State) : ∃ k, exec i s = agentStep s k := by
  cases i with
  | pins | sample | accPlus | accMinus | accZero | drain | dispatch | emit | flush | reset => exact ⟨_, rfl⟩
  | msgRelPlus | msgRelMinus | msgAbs => exact ⟨_, rfl⟩
  | _ => exact absurd rfl hi

theorem exec_halted (hl : s.cfg.legal = true) (hf : s.fault = some c) (hi : agentOf i ≠ none) :
    exec i s = .fault (.halted c) := by
  obtain ⟨k, hk⟩ := exec_of_agentOf_ne_none hi s
  rw [hk, agentStep_halted hl hf]

theorem transportTurn_of_fault (hf : s.fault = some c) : transportTurn s = s := by
  simp [transportTurn, hf]

/-! ### The reserved control state (R155) -/

/-- A Dispatcher operation, whatever state it wants, is FSM_ILLEGAL in the reserved one (R155). -/
theorem dispatcherStep_reserved (hr : ready s = true) (hd : s.dispState = .reserved) :
    dispatcherStep op want s k = .next (raise (.fsmIllegal op .dispState 3) s) := by
  rw [dispatcherStep, agentStep_ready hr, if_pos hd, hd]
  rfl

/-- Every operation of the Dispatcher goes through the Dispatcher's guard, and does not itself raise. -/
theorem exec_of_agentOf_dispatcher (hi : agentOf i = some .dispatcher) (s : State) :
    ∃ op want k, exec i s = dispatcherStep op want s k ∧ ∀ t, k = .next t → t.fault = s.fault := by
  have idle {op : OpName} {u : State} (hu : u.fault = s.fault) :
      ∀ t, (if dispatcherSlot s then .next u else .fault (.stuckPollSlot op) : Result) = .next t →
        t.fault = s.fault := by
    intro t h
    split at h
    · cases h; exact hu
    · cases h
  have emit {may : Bool} : ∀ t, (if s.rem = 0 then .fault .stuckNoMessageLeft
      else if may then .next (emitOne s) else .fault .stuckMessage : Result) = .next t → t.fault = s.fault := by
    intro t h
    split_ifs at h
    cases h; exact emitOne_fault
  cases i with
  | drain => exact ⟨_, _, _, rfl, idle drainReport_fault⟩
  | dispatch => exact ⟨_, _, _, rfl, idle dispatchCycle_fault⟩
  | emit => exact ⟨_, _, _, rfl, emit⟩
  | msgRelPlus | msgRelMinus | msgAbs => exact ⟨_, _, _, rfl, emit⟩
  | flush => exact ⟨_, _, _, rfl, fun t h => by cases h; exact flushCycle_fault⟩
  | _ => cases hi

/-- No effect writes the reserved encoding (R155). -/
theorem Effect.dispState_reserved (h : Effect s t) (ht : t.dispState = .reserved) : s.dispState = .reserved := by
  cases h with
  | decoded | raised | pinned => exact ht
  | ticked | drained => simpa using ht
  | dispatched he =>
    obtain ⟨-, hidle, -⟩ := dispatchEnabled_iff.1 he
    obtain ⟨-, h⟩ | ⟨-, -, h⟩ | ⟨-, -, -, h⟩ | ⟨-, -, -, h⟩ := dispatchCycle_cases s <;>
      simp [h, schedule, hidle] at ht
  | emitted he =>
    by_cases hlast : s.rem - 1 = 0
    · simp [hlast] at ht
    · simpa [hlast] using ht
  | flushed | wasReset => simp at ht

/-! ### Which fault an operation can raise (R184) -/

/-- SAMPLE completes or raises ACC_OVERFLOW, as its exact sum says (R102). -/
theorem execSample_faultCode (h : exec .sample s = .next t) (hs : s.fault = none) (ht : t.fault = some c) :
    c = .accOverflow := by
  have he : samplerEnabled s = true := (samplerStep_next h).1
  by_cases hx : tickOf s.prevPhase (phaseOf s.pinA s.pinB) = 0 ∨
      fitsAcc s.cfg (s.acc + tickOf s.prevPhase (phaseOf s.pinA s.pinB)) = true
  · cases (execSample_completes he hx).symm.trans h
    simp [hs] at ht
  · obtain ⟨h0, hover⟩ := not_or.1 hx
    cases (execSample_overflow he h0 (Bool.eq_false_iff.2 hover)).symm.trans h
    cases ht; rfl

/-- ACC completes or raises ACC_OVERFLOW, as its exact sum says (R121). -/
theorem IsAccRow.faultCode {d : Int} (hi : IsAccRow i d) (h : exec i s = .next t) (hs : s.fault = none)
    (ht : t.fault = some c) : c = .accOverflow := by
  have he : samplerEnabled s = true := by
    obtain ⟨dir, -, -, hexec⟩ := hi.exec_eq_accStep
    exact (samplerStep_next ((hexec s).symm.trans h)).1
  by_cases hx : fitsAcc s.cfg (s.acc + d) = true
  · cases (hi.exec_fits he hx).symm.trans h
    simp [hs] at ht
  · cases (hi.exec_overflow he (Bool.eq_false_iff.2 hx)).symm.trans h
    cases ht; rfl

/-- A Dispatcher operation raises only in the guard, so in the reserved state (R155). -/
theorem execDispatcher_faultCode (hi : agentOf i = some .dispatcher) (h : exec i s = .next t)
    (hs : s.fault = none) (ht : t.fault = some c) : c = .fsmIllegal ∧ s.dispState = .reserved := by
  obtain ⟨op, want, k, hk, hfault⟩ := exec_of_agentOf_dispatcher hi s
  obtain ⟨-, ⟨hd, rfl⟩ | ⟨-, hk'⟩⟩ := dispatcherStep_next (hk.symm.trans h)
  · cases ht
    exact ⟨rfl, hd⟩
  · simp [hfault t hk', hs] at ht

end Sys2Proof.Machine

section
open Sys2Proof Sys2Proof.Machine Sys2Proof.Safety

/-- Settles O38: the Dispatcher's guard names the state it wants (`dispatcherStep_stuck`), and a recorded fault stops
every agent. -/
theorem outOfOrderDispatcherIsStuck : Obligations.OutOfOrderDispatcherIsStuck := by
  intro s hl
  refine ⟨fun hf hn => ?_, fun c hc => ?_⟩
  · have hr : ready s = true := ready_iff.2 ⟨hl, hf⟩
    exact ⟨fun hd => ⟨dispatcherStep_stuck hr hd hn, dispatcherStep_stuck hr hd hn⟩,
      fun hd => dispatcherStep_stuck hr hd hn, fun hd => dispatcherStep_stuck hr hd hn⟩
  · exact ⟨exec_halted hl hc nofun, exec_halted hl hc nofun, exec_halted hl hc nofun, exec_halted hl hc nofun⟩

/-- Settles O39: the Dispatcher's guard raises in the reserved state, and none of the nine effects enters it. -/
theorem reservedStateRaisesFsmIllegal : Obligations.ReservedStateRaisesFsmIllegal := by
  refine ⟨fun s hl hf hd => ?_, fun i s t h => (exec_effect h).dispState_reserved⟩
  have hr : ready s = true := ready_iff.2 ⟨hl, hf⟩
  exact ⟨dispatcherStep_reserved hr hd, dispatcherStep_reserved hr hd, dispatcherStep_reserved hr hd,
    dispatcherStep_reserved hr hd⟩

/-- Settles O40: each of these operations belongs to an agent, and the agents' guard stops them all. -/
theorem noAgentStepsAfterFault : Obligations.NoAgentStepsAfterFault := by
  intro s c hl hc
  have hagent : ∀ i ∈ [Instr.sample, .accPlus, .accMinus, .accZero, .drain, .dispatch, .emit, .flush, .reset],
      agentOf i ≠ none := by decide
  exact ⟨fun i hi => exec_halted hl hc (hagent i hi), fun a b => exec_halted hl hc nofun,
    fun ch n v => ⟨exec_halted hl hc nofun, exec_halted hl hc nofun, exec_halted hl hc nofun⟩,
    transportTurn_of_fault hc⟩

/-- Settles O42: SAMPLE and ACC raise where the sum is out of range, the Dispatcher's operations in their guard, and
the others keep `fault`. -/
theorem eachOperationHasOneFault : Obligations.EachOperationHasOneFault := by
  intro i s t c h hs ht
  cases i with
  | sample => exact .inl ⟨execSample_faultCode h hs ht, .inl rfl⟩
  | accPlus => exact .inl ⟨IsAccRow.faultCode (.inl ⟨rfl, rfl⟩) h hs ht, by simp⟩
  | accMinus => exact .inl ⟨IsAccRow.faultCode (.inr (.inl ⟨rfl, rfl⟩)) h hs ht, by simp⟩
  | accZero => exact .inl ⟨IsAccRow.faultCode (.inr (.inr ⟨rfl, rfl⟩)) h hs ht, by simp⟩
  | drain | dispatch | emit | flush | msgRelPlus | msgRelMinus | msgAbs =>
    obtain ⟨rfl, hd⟩ := execDispatcher_faultCode rfl h hs ht
    exact .inr ⟨rfl, hd, nofun, nofun, nofun, nofun, nofun, fun _ _ => nofun⟩
  | pins a b =>
    cases execPins_next h
    exact absurd (hs.symm.trans ht) nofun
  | reset =>
    cases execReset_next h
    simp [hs] at ht
  | _ =>
    obtain ⟨d, rfl⟩ := exec_next_of_agentOf_none rfl h
    simp [hs] at ht

end

/-! ## Non-interference: differences of two states that the operations do not see -/

namespace Sys2Proof.Safety

open Sys2Proof.Machine

variable {R : State → State → Prop} {s s' t : State} {k k' l l' : Result} {i : Instr}

/-! ### Related states and their answers -/

/-- Two answers that agree but for a difference `R` of their next states. -/
inductive SameAnswer (R : State → State → Prop) : Result → Result → Prop where
  | next {t t' : State} (h : R t t') : SameAnswer R (.next t) (.next t')
  | fault (f : Fault) : SameAnswer R (.fault f) (.fault f)
  | refused (x : Refusal) : SameAnswer R (.refused x) (.refused x)

/-- The two states agree in all that guards test and effects are computed from, under either policy. -/
structure SameReads (s s' : State) : Prop where
  cfg : s'.cfg = s.cfg
  pinA : s'.pinA = s.pinA
  pinB : s'.pinB = s.pinB
  prevPhase : s'.prevPhase = s.prevPhase
  acc : s'.acc = s.acc
  dispState : s'.dispState = s.dispState
  rem : s'.rem = s.rem
  pollSlot : s'.pollSlot = s.pollSlot
  fault : s'.fault = s.fault
  value : messageValue s' = messageValue s

/-- The writes that operations do under either policy: of one field, or of one event to the trace. -/
inductive Write where
  | pinA (x : BitVec 1)
  | pinB (x : BitVec 1)
  | prevPhase (x : Phase)
  | acc (x : Int)
  | dispState (x : DispState)
  | rem (x : Nat)
  | pollSlot (x : Option PollSlot)
  | fault (x : Option FaultCode)
  | decodeOut (x : DirBits)
  | event (e : Event)

def Write.apply : Write → State → State
  | .pinA x, s => s.setPinA x
  | .pinB x, s => s.setPinB x
  | .prevPhase x, s => s.setPrevPhase x
  | .acc x, s => s.setAcc x
  | .dispState x, s => s.setDispState x
  | .rem x, s => s.setRem x
  | .pollSlot x, s => s.setPollSlot x
  | .fault x, s => s.setFault x
  | .decodeOut x, s => s.setDecodeOut x
  | .event e, s => s.setTrace (s.trace ++ [e])

@[simp] theorem Write.apply_cfg (w : Write) : (w.apply s).cfg = s.cfg := by cases w <;> rfl

/-- A difference that no operation but RESET sees: nothing read differs, and every write keeps it. What only one
policy reads and writes (R153) is asked for under that policy. -/
structure Unseen (R : State → State → Prop) : Prop where
  reads {s s' : State} : R s s' → SameReads s s'
  write {s s' : State} (w : Write) : R s s' → R (w.apply s) (w.apply s')
  offer {s s' : State} (m : Message) : R s s' → R (offer m s) (offer m s')
  deliverAll {s s' : State} : R s s' → R (deliver s.queue.length s) (deliver s'.queue.length s')
  rdir {s s' : State} (x : BitVec 1) : s.cfg.mode = .relative → R s s' → R (s.setRdir x) (s'.setRdir x)
  values {s s' : State} : s.cfg.mode = .absolute → R s s' →
    s'.ctrlValue = s.ctrlValue ∧ s'.lastEmitted = s.lastEmitted
  ctrlValue {s s' : State} (x : BitVec 7) : s.cfg.mode = .absolute → R s s' →
    R (s.setCtrlValue x) (s'.setCtrlValue x)
  lastEmitted {s s' : State} (x : BitVec 7) : s.cfg.mode = .absolute → R s s' →
    R (s.setLastEmitted x) (s'.setLastEmitted x)

/-! ### The guards of related states -/

theorem SameAnswer.ite {p : Prop} [Decidable p] (hk : SameAnswer R k k') (hl : SameAnswer R l l') :
    SameAnswer R (if p then k else l) (if p then k' else l') := by
  split
  · exact hk
  · exact hl

theorem SameReads.samplerSlot (hr : SameReads s s') : samplerSlot s' = samplerSlot s := by
  simp only [Machine.samplerSlot, hr.cfg, hr.pollSlot]

theorem SameReads.dispatcherSlot (hr : SameReads s s') : dispatcherSlot s' = dispatcherSlot s := by
  simp only [Machine.dispatcherSlot, hr.cfg, hr.pollSlot]

theorem SameAnswer.inRun (hr : SameReads s s') (hk : SameAnswer R k k') :
    SameAnswer R (inRun s k) (inRun s' k') := by
  rw [Machine.inRun, Machine.inRun, hr.cfg]
  exact .ite hk (.refused _)

theorem SameAnswer.agentStep (hr : SameReads s s') (hk : SameAnswer R k k') :
    SameAnswer R (agentStep s k) (agentStep s' k') := by
  refine .inRun hr ?_
  rw [hr.fault]
  cases s.fault with
  | none => exact hk
  | some c => exact .fault _

theorem SameAnswer.samplerStep (op : OpName) (hr : SameReads s s') (hk : SameAnswer R k k') :
    SameAnswer R (samplerStep op s k) (samplerStep op s' k') := by
  rw [Machine.samplerStep, Machine.samplerStep, hr.samplerSlot]
  exact .agentStep hr (.ite hk (.fault _))

/-! ### The operations on related states -/

namespace Unseen

section
variable (h : Unseen R) (hs : R s s')
include h hs

theorem raise (info : FaultInfo) : R (raise info s) (raise info s') :=
  h.write (.event (.fault info)) (h.write (.fault (some info.code)) hs)

theorem passSlot (p : PollSlot) : R (passSlot p s) (passSlot p s') := by
  rw [passSlot_eq, passSlot_eq, (h.reads hs).cfg, (h.reads hs).pollSlot]
  exact h.write (.pollSlot _) hs

theorem dispatcherStep (op : OpName) (want : DispState) (hk : SameAnswer R k k') :
    SameAnswer R (dispatcherStep op want s k) (dispatcherStep op want s' k') := by
  rw [Machine.dispatcherStep, Machine.dispatcherStep, (h.reads hs).dispState]
  exact .agentStep (h.reads hs) (.ite (.next (h.raise hs _)) (.ite hk (.fault _)))

theorem idleStep (op : OpName) {t' : State} (ht : R t t') :
    SameAnswer R (idleStep op s (.next t)) (idleStep op s' (.next t')) := by
  rw [Machine.idleStep, Machine.idleStep, (h.reads hs).dispatcherSlot]
  exact h.dispatcherStep hs op .idle (.ite (.next ht) (.fault _))

theorem accumulate (op : OpName) (dir : DirBits) {f : State → State} (hf : ∀ {t t'}, R t t' → R (f t) (f t')) :
    SameAnswer R (raising s ((accumulate op dir s).map f)) (raising s' ((accumulate op dir s').map f)) := by
  rw [Machine.accumulate, Machine.accumulate, (h.reads hs).cfg, (h.reads hs).acc]
  split_ifs
  · exact .next (h.raise hs _)
  · exact .next (hf (h.write (.acc _) hs))
  · exact .next (h.raise hs _)

theorem accStep (dir : DirBits) : SameAnswer R (accStep dir s) (accStep dir s') :=
  .samplerStep .acc (h.reads hs) (h.accumulate hs .acc dir fun ht => h.passSlot ht .dispatcher)

theorem sample : SameAnswer R (exec .sample s) (exec .sample s') := by
  have hr := h.reads hs
  refine .samplerStep .sample hr ?_
  have hafter {t t' : State} (cur : Phase) (ht : R t t') :
      R (Machine.passSlot .dispatcher (t.setPrevPhase cur)) (Machine.passSlot .dispatcher (t'.setPrevPhase cur)) :=
    h.passSlot (h.write (.prevPhase cur) ht) .dispatcher
  simp only [sampleOnce, sampleTick, hr.pinA, hr.pinB, hr.prevPhase]
  split_ifs
  · exact .next (hafter _ hs)
  · exact h.accumulate hs .sample _ (hafter _)

theorem drained : R (drainReport s) (drainReport s') := by
  rw [drainReport, drainReport, drainAcc, drainAcc, (h.reads hs).acc]
  exact h.passSlot (h.write (.event _) (h.write (.acc 0) hs)) .sampler

theorem schedule (n : Nat) : R (schedule n s) (schedule n s') :=
  h.write (.dispState .emit) (h.write (.rem n) hs)

theorem dispatchAbsolute (hm : s.cfg.mode = .absolute) (d : Int) :
    R (dispatchAbsolute d s) (dispatchAbsolute d s') := by
  obtain ⟨hctrl, hlast⟩ := h.values hm hs
  simp only [Machine.dispatchAbsolute, hctrl, hlast]
  split_ifs
  · exact h.passSlot (h.ctrlValue _ hm hs) .sampler
  · exact h.schedule (h.ctrlValue _ hm hs) 1

theorem dispatched : R (dispatchCycle s) (dispatchCycle s') := by
  have hdrained : R (s.setAcc 0) (s'.setAcc 0) := h.write (.acc 0) hs
  rw [dispatchCycle, dispatchCycle, drainAcc, drainAcc, (h.reads hs).acc, (h.reads hs).cfg]
  dsimp only
  split_ifs
  · exact h.passSlot hdrained .sampler
  · cases hm : s.cfg.mode with
    | relative => exact h.schedule (h.rdir (s := s.setAcc 0) _ hm hdrained) _
    | absolute => exact h.dispatchAbsolute hdrained hm _

theorem recordEmitted : R (recordEmitted s) (recordEmitted s') := by
  have hcfg := (h.reads hs).cfg
  cases hm : s.cfg.mode with
  | relative => rwa [recordEmitted_relative hm, recordEmitted_relative (hcfg ▸ hm)]
  | absolute =>
    rw [recordEmitted_absolute hm, recordEmitted_absolute (hcfg ▸ hm), (h.values hm hs).1]
    exact h.lastEmitted _ hm hs

theorem countDown : R (countDown s) (countDown s') := by
  rw [countDown_eq, countDown_eq, (h.reads hs).rem, (h.reads hs).dispState]
  exact h.write (.dispState _) (h.write (.rem _) hs)

theorem emitted : R (emitOne s) (emitOne s') := by
  rw [emitOne, emitOne, (h.reads hs).cfg, (h.reads hs).value]
  exact h.countDown (h.recordEmitted (h.offer _ (h.write (.event _) hs)))

theorem emitStep (may : Bool) : SameAnswer R (emitStep may s) (emitStep may s') := by
  rw [Machine.emitStep, Machine.emitStep, (h.reads hs).rem]
  exact h.dispatcherStep hs .emit .emit (.ite (.fault _) (.ite (.next (h.emitted hs)) (.fault _)))

theorem messageStep (mode : Mode) (m : Message) : SameAnswer R (messageStep mode m s) (messageStep mode m s') := by
  have hsends : sendsMessage s' mode m = sendsMessage s mode m := by
    rw [sendsMessage, sendsMessage, (h.reads hs).cfg, (h.reads hs).value]
  rw [Machine.messageStep, Machine.messageStep, hsends]
  exact h.emitStep hs _

theorem flushed : R (flushCycle s) (flushCycle s') :=
  h.passSlot (h.write (.dispState .idle) (h.deliverAll (h.write (.event .flush) hs))) .sampler

end

/-- A difference that neither reads nor writes see, no instruction but RESET sees. -/
theorem exec (h : Unseen R) (hs : R s s') (hi : i ≠ .reset) : SameAnswer R (exec i s) (exec i s') := by
  have hr := h.reads hs
  cases i with
  | reset => exact absurd rfl hi
  | pins a b => exact .agentStep hr (.next (h.write (.pinB b) (h.write (.pinA a) hs)))
  | sample => exact h.sample hs
  | accPlus | accMinus | accZero => exact h.accStep hs _
  | drain => exact h.idleStep hs .drain (h.drained hs)
  | dispatch => exact h.idleStep hs .dispatch (h.dispatched hs)
  | emit => exact h.emitStep hs true
  | msgRelPlus | msgRelMinus | msgAbs => exact h.messageStep hs _ _
  | flush => exact h.dispatcherStep hs .flush .flush (.next (h.flushed hs))
  | _ => exact .inRun hr (.next (h.write (.decodeOut _) hs))

end Unseen

/-! ### The other policy's registers (R153) -/

/-- Any values in the two registers of the absolute policy. -/
def putValues (v l : BitVec 7) (s : State) : State := { s with ctrlValue := v, lastEmitted := l }

/-- Any value in the register of the relative policy. -/
def putRdir (r : BitVec 1) (s : State) : State := { s with rdir := r }

/-- The second state is the first, which is under the policy, with something put in by `f`. -/
def PutUnder (mode : Mode) (f : State → State) (s s' : State) : Prop := s.cfg.mode = mode ∧ s' = f s

theorem SameAnswer.eq_viewResult {mode : Mode} {f : State → State} (h : SameAnswer (PutUnder mode f) k k') :
    k' = viewResult f k := by
  cases h with
  | next h => exact congrArg _ h.2
  | fault f => rfl
  | refused x => rfl

theorem unseen_putValues (v l : BitVec 7) : Unseen (PutUnder .relative (putValues v l)) where
  reads := by
    rintro s _ ⟨hm, rfl⟩
    exact ⟨rfl, rfl, rfl, rfl, rfl, rfl, rfl, rfl, rfl,
      (messageValue_relative (s := putValues v l s) hm).trans (messageValue_relative hm).symm⟩
  write := by
    rintro s _ w ⟨hm, rfl⟩
    exact ⟨by rwa [w.apply_cfg], by cases w <;> rfl⟩
  offer := by rintro s _ m ⟨hm, rfl⟩; exact ⟨hm, rfl⟩
  deliverAll := by rintro s _ ⟨hm, rfl⟩; exact ⟨hm, rfl⟩
  rdir := by rintro s _ x - ⟨hm, rfl⟩; exact ⟨hm, rfl⟩
  values := by rintro s _ ha ⟨hm, -⟩; cases ha.symm.trans hm
  ctrlValue := by rintro s _ x ha ⟨hm, -⟩; cases ha.symm.trans hm
  lastEmitted := by rintro s _ x ha ⟨hm, -⟩; cases ha.symm.trans hm

theorem unseen_putRdir (r : BitVec 1) : Unseen (PutUnder .absolute (putRdir r)) where
  reads := by
    rintro s _ ⟨hm, rfl⟩
    exact ⟨rfl, rfl, rfl, rfl, rfl, rfl, rfl, rfl, rfl,
      (messageValue_absolute (s := putRdir r s) hm).trans (messageValue_absolute hm).symm⟩
  write := by
    rintro s _ w ⟨hm, rfl⟩
    exact ⟨by rwa [w.apply_cfg], by cases w <;> rfl⟩
  offer := by rintro s _ m ⟨hm, rfl⟩; exact ⟨hm, rfl⟩
  deliverAll := by rintro s _ ⟨hm, rfl⟩; exact ⟨hm, rfl⟩
  rdir := by rintro s _ x hr ⟨hm, -⟩; cases hr.symm.trans hm
  values := by rintro s _ - ⟨-, rfl⟩; exact ⟨rfl, rfl⟩
  ctrlValue := by rintro s _ x - ⟨hm, rfl⟩; exact ⟨hm, rfl⟩
  lastEmitted := by rintro s _ x - ⟨hm, rfl⟩; exact ⟨hm, rfl⟩

/-! ### The Transport (R200) -/

/-- The two states are the same block, with the same trace. -/
def SameBlock (s s' : State) : Prop := blockView s = blockView s'

theorem SameAnswer.viewResult_eq (h : SameAnswer SameBlock k k') :
    viewResult blockView k = viewResult blockView k' := by
  cases h with
  | next h => exact congrArg (fun u => (.next u : Result)) h
  | fault f => rfl
  | refused x => rfl

/-- What the view of the block shows is equal in both states. -/
theorem SameBlock.eq_of_view {α : Type} {shown : State → α} (hs : SameBlock s s')
    (hv : ∀ s, shown (blockView s) = shown s) : shown s' = shown s := by
  rw [← hv s', ← hv s, hs]

/-- An update that leaves the Transport and the draws alone commutes with the view of the block. -/
theorem SameBlock.of_commutes {f : State → State} (hf : ∀ s, blockView (f s) = f (blockView s))
    (hs : SameBlock s s') : SameBlock (f s) (f s') := by
  rw [SameBlock, hf, hf, hs]

theorem unseen_sameBlock : Unseen SameBlock where
  reads h := by constructor <;> exact h.eq_of_view fun _ => rfl
  write w h := h.of_commutes fun _ => by cases w <;> rfl
  offer _ h := h
  deliverAll h := h
  rdir x _ h := h.of_commutes (f := (State.setRdir · x)) fun _ => rfl
  values _ h := ⟨h.eq_of_view fun _ => rfl, h.eq_of_view fun _ => rfl⟩
  ctrlValue x _ h := h.of_commutes (f := (State.setCtrlValue · x)) fun _ => rfl
  lastEmitted x _ h := h.of_commutes (f := (State.setLastEmitted · x)) fun _ => rfl

theorem blockView_resetBlock (s : State) : blockView (resetBlock s) = resetBlock (blockView s) := by
  rw [resetBlock, resetBlock, passSlot_eq, passSlot_eq]
  rfl

theorem blockView_transportTurn (s : State) : blockView (transportTurn s) = blockView s := by
  obtain h | ⟨-, h⟩ := transportTurn_cases s <;> rw [h]
  rfl

theorem exec_sameBlock (hs : SameBlock s s') (i : Instr) : SameAnswer SameBlock (exec i s) (exec i s') := by
  by_cases hi : i = .reset
  · subst hi
    exact .agentStep (unseen_sameBlock.reads hs) (.next (hs.of_commutes blockView_resetBlock))
  · exact unseen_sameBlock.exec hs hi

end Sys2Proof.Safety

section
open Sys2Proof Sys2Proof.Machine Sys2Proof.Safety

/-- Settles O47: under each policy, values put in the other policy's registers are a difference that no operation but
RESET sees. -/
theorem policiesAreKeptApart : Obligations.PoliciesAreKeptApart := fun _ _ v l r hi =>
  ⟨fun hm => ((unseen_putValues v l).exec ⟨hm, rfl⟩ hi).eq_viewResult,
    fun hm => ((unseen_putRdir r).exec ⟨hm, rfl⟩ hi).eq_viewResult⟩

/-- Settles O48: what the Transport holds is a difference that no operation sees, RESET included (R41). -/
theorem transportIsInvisible : Obligations.TransportIsInvisible :=
  ⟨fun i _ _ hs => (exec_sameBlock hs i).viewResult_eq, blockView_transportTurn⟩

end

/-! ## The host's messages, precise faults, and requests that wait -/

namespace Sys2Proof.Machine

variable {s t : State} {i : Instr} {waiting : Option Agent}

/-- R185: an effect that changes `fault` is the raising of a fault, and no other effect writes it. -/
theorem Effect.raised_of_fault_ne (h : Effect s t) (hne : t.fault ≠ s.fault) : Raised s t := by
  cases h with
  | raised info hr => exact .of_ready hr
  | decoded | pinned => exact absurd rfl hne
  | ticked | drained | dispatched | emitted | flushed | wasReset => exact absurd (by simp) hne

/-! ### What the operations of the other agents leave to an agent that waits (R187) -/

/-- A Sampler that waits counts nothing: `acc` changes only by a drain or a RESET, `prev_phase` only by a RESET. -/
structure LeavesSampler (s t : State) : Prop where
  acc : t.acc = s.acc ∨ t.acc = 0
  prevPhase : t.prevPhase = s.prevPhase ∨ t.prevPhase = phaseOf s.pinA s.pinB

/-- A Dispatcher that waits schedules and emits nothing: its registers change only by a RESET, the trace only by a
fault event. -/
structure LeavesDispatcher (s t : State) : Prop where
  cycle : (t.dispState = s.dispState ∧ t.rem = s.rem) ∨ (t.dispState = .idle ∧ t.rem = 0)
  emitted : Safety.emittedOf t.trace = Safety.emittedOf s.trace
  trace : t.fault = none → t.trace = s.trace

theorem LeavesDispatcher.of_eq (hd : t.dispState = s.dispState) (hrem : t.rem = s.rem) (ht : t.trace = s.trace) :
    LeavesDispatcher s t :=
  ⟨.inl ⟨hd, hrem⟩, congrArg _ ht, fun _ => ht⟩

theorem Raised.leavesSampler (h : Raised s t) : LeavesSampler s t := by
  obtain ⟨-, info, rfl⟩ := h
  exact ⟨.inl rfl, .inl rfl⟩

theorem Raised.leavesDispatcher (h : Raised s t) : LeavesDispatcher s t := by
  obtain ⟨-, info, rfl⟩ := h
  exact ⟨.inl ⟨rfl, rfl⟩, by simp [Safety.emittedOf], nofun⟩

theorem exec_leavesSampler (hi : agentOf i ≠ some .sampler) (h : exec i s = .next t) : LeavesSampler s t := by
  cases i with
  | sample | accPlus | accMinus | accZero => exact absurd rfl hi
  | drain | dispatch =>
    obtain hr | ⟨-, rfl⟩ | ⟨-, rfl⟩ := execDispatchOrDrain_next (by simp) h
    · exact hr.leavesSampler
    · exact ⟨.inr dispatchCycle_acc, .inl dispatchCycle_prevPhase⟩
    · exact ⟨.inr drainReport_acc, .inl drainReport_prevPhase⟩
  | emit | flush | msgRelPlus | msgRelMinus | msgAbs =>
    obtain hr | ⟨-, rfl⟩ | ⟨-, rfl⟩ := execEmitOrFlush_next (by simp) h
    · exact hr.leavesSampler
    · exact ⟨.inl emitOne_acc, .inl emitOne_prevPhase⟩
    · exact ⟨.inl flushCycle_acc, .inl flushCycle_prevPhase⟩
  | pins a b =>
    cases execPins_next h
    exact ⟨.inl rfl, .inl rfl⟩
  | reset =>
    cases execReset_next h
    exact ⟨.inr resetBlock_acc, .inr resetBlock_prevPhase⟩
  | _ =>
    obtain ⟨d, rfl⟩ := exec_next_of_agentOf_none rfl h
    exact ⟨.inl rfl, .inl rfl⟩

theorem exec_leavesDispatcher (hi : agentOf i ≠ some .dispatcher) (h : exec i s = .next t) :
    LeavesDispatcher s t := by
  cases i with
  | sample | accPlus | accMinus | accZero =>
    obtain hr | ⟨x, p, rfl, -⟩ := execSampler_next (by simp) h
    · exact hr.leavesDispatcher
    · exact .of_eq (by simp) (by simp) (by simp)
  | drain | dispatch | emit | flush | msgRelPlus | msgRelMinus | msgAbs => exact absurd rfl hi
  | pins a b =>
    cases execPins_next h
    exact .of_eq rfl rfl rfl
  | reset =>
    cases execReset_next h
    exact ⟨.inr ⟨resetBlock_dispState, resetBlock_rem⟩, by simp, fun _ => resetBlock_trace⟩
  | _ =>
    obtain ⟨d, rfl⟩ := exec_next_of_agentOf_none rfl h
    exact .of_eq rfl rfl rfl

/-! ### The step of a request that waits -/

theorem drawnOperation_cfg (waiting : Option Agent) (s : State) : (drawnOperation waiting s).cfg = s.cfg := by
  obtain h | h := drawnOperation_effect waiting s
  · simp [h]
  · exact h.cfg_eq

/-- What holds once the draw is counted, and after every operation of an agent that does not wait, holds after a drawn
operation. -/
theorem drawnOperation_of_others {P : State → Prop} (hnone : P (s.setDraws (s.draws + 1)))
    (hexec : ∀ {i t}, agentOf i ≠ waiting → exec i (s.setDraws (s.draws + 1)) = .next t → P t) :
    P (drawnOperation waiting s) := by
  obtain h | ⟨i, -, hi, he⟩ := performDrawn_cases waiting (Config.agentDraw s.draws) (s.setDraws (s.draws + 1))
  · rw [drawnOperation, h]
    exact hnone
  · exact hexec hi he

theorem drawnOperation_leavesSampler (s : State) : LeavesSampler s (drawnOperation (some .sampler) s) := by
  refine drawnOperation_of_others ⟨.inl rfl, .inl rfl⟩ fun hi h => ?_
  obtain ⟨hacc, hphase⟩ := exec_leavesSampler hi h
  exact ⟨hacc, hphase⟩

theorem drawnOperation_leavesDispatcher (s : State) :
    LeavesDispatcher s (drawnOperation (some .dispatcher) s) := by
  refine drawnOperation_of_others (.of_eq rfl rfl rfl) fun hi h => ?_
  obtain ⟨hcycle, hemitted, htrace⟩ := exec_leavesDispatcher hi h
  exact ⟨hcycle, hemitted, htrace⟩

/-- R187: a first request that is not enabled makes the step a waiting one. -/
theorem step_of_notEnabled {r : RequestWord} {rest : List RequestWord} {f : Fault} (hl : s.cfg.legal = true)
    (hn : Safety.noRefusal s) (hp : s.program = r :: rest) (hi : decodeRequest s.cfg.mode r = .ok i)
    (he : exec i (s.setProgram rest) = .fault f) (hf : ∀ c, f ≠ .halted c) :
    step s = .next (transportTurn (drawnOperation (agentOf i) s)) := by
  rw [step_of_request hl hn hp hi, he, requestOutcome, if_pos (notEnabled_iff.2 hf), waitingStep]

end Sys2Proof.Machine

namespace Sys2Proof.Safety

open Sys2Proof.Machine

variable {s t : State}

/-! ### The host's messages, effect by effect -/

theorem TransportInv.congr (hs : TransportInv s) (hm : t.delivered ++ t.queue = s.delivered ++ s.queue)
    (he : emittedOf t.trace = emittedOf s.trace) : TransportInv t := by
  unfold TransportInv
  rw [hm, he]
  exact hs

/-- R200: the emitted message goes to the end of the queue, or is dropped, as the Transport's draw has it. -/
theorem TransportInv.emitted (hs : TransportInv s) : TransportInv (emitOne s) := by
  have hemitted : emittedOf (emitOne s).trace = emittedOf s.trace ++ [buildMessage s.cfg (messageValue s)] := by
    simp [emittedOf]
  unfold TransportInv
  rw [hemitted, emitOne_delivered, emitOne_queue]
  split
  · rw [← List.append_assoc]
    exact hs.append_right _
  · exact hs.trans (List.sublist_append_left _ _)

theorem TransportInv.effect (hs : TransportInv s) (h : Effect s t) : TransportInv t := by
  cases h with
  | decoded | pinned => exact hs.congr rfl rfl
  | raised info hr => exact hs.congr rfl (by simp [emittedOf])
  | ticked | dispatched | wasReset => exact hs.congr (by simp) (by simp)
  | drained he => exact hs.congr (by simp) (by simp [emittedOf])
  | emitted he => exact hs.emitted
  | flushed he => exact hs.congr (flushCycle_messages s) (by simp [emittedOf])

theorem TransportInv.prepared (hs : TransportInv s) (h : Prepared s t) : TransportInv t := by
  obtain ⟨p, n, rfl⟩ := h
  exact hs.congr rfl rfl

theorem TransportInv.transportTurn (hs : TransportInv s) : TransportInv (transportTurn s) :=
  hs.congr (transportTurn_messages s) (congrArg _ transportTurn_trace)

/-- What every effect, the step's own bookkeeping and the Transport's turn keep, every step keeps. -/
theorem step_keeps_of_effect {P : State → Prop} (prepared : ∀ {s t}, P s → Prepared s t → P t)
    (effect : ∀ {s t}, P s → Effect s t → P t) (turn : ∀ {s}, P s → P (transportTurn s)) (hs : P s)
    (h : step s = .next t) : P t := by
  obtain ⟨s₀, u, hprep, hu, rfl⟩ := step_effect h
  have h₀ : P s₀ := prepared hs hprep
  obtain rfl | hu := hu
  · exact turn h₀
  · exact turn (effect h₀ hu)

end Sys2Proof.Safety

section
open Sys2Proof Sys2Proof.Machine Sys2Proof.Safety

/-- Settles O53: an effect on a prepared state and the Transport's turn, which a step is made of, each keep the host's
messages a subsequence of the emitted ones. -/
theorem stepKeepsHostSubsequence : Obligations.StepKeepsHostSubsequence := fun _ _ =>
  step_keeps_of_effect TransportInv.prepared TransportInv.effect TransportInv.transportTurn

/-- Settles O41: of the nine effects only the raising of a fault writes `fault`. -/
theorem faultsArePrecise : Obligations.FaultsArePrecise :=
  fun _ _ _ h hne => (exec_effect h).raised_of_fault_ne hne

/-- Settles O56: the step draws an operation of another agent (`step_of_notEnabled`), which leaves the waiting one's
registers as `LeavesSampler` and `LeavesDispatcher` say. -/
theorem stuckRequestWaits : Obligations.StuckRequestWaits := by
  intro s r rest i f hl hn hp hi he hf
  refine ⟨_, step_of_notEnabled hl hn hp hi he hf, ?program, ?cfg, ?draws, fun ha => ?sampler,
    fun ha => ?dispatcher⟩
  case program => rw [transportTurn_program, drawnOperation_program]
  case cfg => rw [transportTurn_cfg, drawnOperation_cfg]
  case draws => exact (draws_lt_drawnOperation _ s).trans_le (draws_le_transportTurn _)
  case sampler =>
    obtain ⟨hacc, hphase⟩ := drawnOperation_leavesSampler s
    rw [ha, transportTurn_acc, transportTurn_prevPhase]
    exact ⟨hacc, hphase⟩
  case dispatcher =>
    obtain ⟨hcycle, hemitted, htrace⟩ := drawnOperation_leavesDispatcher s
    rw [ha, transportTurn_dispState, transportTurn_rem, transportTurn_trace, transportTurn_fault]
    exact ⟨hcycle, hemitted, htrace⟩

end

namespace Sys2Proof.Machine

variable {s t : State}

/-! ### RESET, alone and after another RESET -/

/-- R210: the state after a RESET, register by register. -/
theorem resetBlock_eq (s : State) : resetBlock s = { s with
    prevPhase := s.pinA ++ s.pinB
    acc := 0
    ctrlValue := BitVec.ofNat 7 s.cfg.initValue
    lastEmitted := BitVec.ofNat 7 s.cfg.initValue
    dispState := .idle
    rem := 0
    rdir := 0#1
    pollSlot := if s.cfg.sched = .polled then some .sampler else s.pollSlot } := by
  ext1 <;> simp [phaseOf, seedValue, slotAfter_eq_ite]

/-- R210: a second RESET finds every register at its reset value, `prev_phase` at the pins. -/
theorem resetBlock_resetBlock (s : State) : resetBlock (resetBlock s) = resetBlock s := by
  ext1 <;> simp [seedValue]

/-- R210, R106: with a PINS in between, the second RESET finds all but `prev_phase` at its reset value. -/
theorem resetBlock_setPins_resetBlock (a b : BitVec 1) (s : State) :
    resetBlock (setPins a b (resetBlock s)) = (setPins a b (resetBlock s)).setPrevPhase (phaseOf a b) := by
  ext1 <;> simp [setPins, seedValue]

/-- RESET leaves the block ready for the next RESET (R185, R210). -/
theorem execReset_next_ready (h : exec .reset s = .next t) : ready t = true := by
  obtain ⟨hr, -⟩ := agentStep_next h
  rw [execReset_next h]
  simpa [ready_iff] using ready_iff.1 hr

end Sys2Proof.Machine

section
open Sys2Proof Sys2Proof.Machine

/-- Settles O35: a ready block answers RESET with `resetBlock`, which `resetBlock_eq` writes out. -/
theorem resetInitialisesTheBlock : Obligations.ResetInitialisesTheBlock := by
  intro s hl hf
  rw [execReset_ready (ready_iff.2 ⟨hl, hf⟩), resetBlock_eq]

/-- Settles O37: RESET is idempotent (`resetBlock_resetBlock`), and a PINS in between leaves it only the new phase
to write (`resetBlock_setPins_resetBlock`). -/
theorem secondResetChangesNothing : Obligations.SecondResetChangesNothing := by
  intro s t u a b ht hu
  have hr : ready t = true := execReset_next_ready ht
  obtain rfl := execReset_next ht
  obtain rfl := execPins_next hu
  refine ⟨?again, ?afterPins⟩
  case again => rw [execReset_ready hr, resetBlock_resetBlock]
  case afterPins =>
    have hr' : ready (setPins a b (resetBlock s)) = true := hr
    rw [execReset_ready hr', resetBlock_setPins_resetBlock]
    rfl

end
